-- ==== Sys2Proof/Word.lean ====
section
/-! DEFINITION. The two widths of the machine: 8-bit bytes and 16-bit words (R4, R50). -/

namespace Sys2Proof

/-- An 8-bit value: a register view, a memory byte, an opcode byte, an `n` or an `e` (R4). -/
abbrev Byte := BitVec 8

/-- A 16-bit value: a register pair, `SP`, `PC`, an address, an `nn` (R4, R50). -/
abbrev Word := BitVec 16

end Sys2Proof
end

