-- ==== Sys2Proof/Config.lean ====
section
/-! DEFINITION. The parameters of `00_scope.md` R4: those named in capitals as one record with the spec's defaults, taken
as an argument where a default can be replaced (log 25); the fixed ones as constants. CORE leaves no value undefined, so
there is no free value here. -/

namespace Sys2Proof.Config

/-- `EI_DELAY` (R4, I16): after how many instructions `EI` takes effect. "only 0 is specified here" (decision D9), so the
type has that one value. -/
inductive EiDelay
  /-- 0: `IME` is set when `EI` retires (R274). -/
  | zero
deriving DecidableEq, Repr

/-- `STOP_BEHAVIOUR` (R4, I18): "fixed to halt-like" (decision D11), so the type has that one value. -/
inductive StopBehaviour
  /-- `STOP` sets the latch `halted` (R272). -/
  | haltLike
deriving DecidableEq, Repr

/-- The parameters that R4 names in capitals, with its defaults. -/
structure Params where
  /-- `RESET_AF` (R38, R340; decision D2). -/
  resetAF : Word := 0x01B0
  /-- `RESET_BC` (R38, R340; decision D2). -/
  resetBC : Word := 0x0013
  /-- `RESET_DE` (R38, R340; decision D2). -/
  resetDE : Word := 0x00D8
  /-- `RESET_HL` (R38, R340; decision D2). -/
  resetHL : Word := 0x014D
  /-- `RESET_SP` (R38, R340; decision D2). -/
  resetSP : Word := 0xFFFE
  /-- `RESET_PC`, the entry address (R38, R340, R341; decision D2). -/
  resetPC : Word := 0x0100
  /-- `RESET_IME` (R38, R340; decision D2). -/
  resetIME : Bool := false
  /-- `RESET_HALTED` (R38, R340; decision D2). -/
  resetHalted : Bool := false
  /-- `EI_DELAY` (decision D9). -/
  eiDelay : EiDelay := .zero
  /-- `STOP_BEHAVIOUR` (decision D11). -/
  stopBehaviour : StopBehaviour := .haltLike
  /-- `INVALID_OPCODES`, the eleven first bytes without an instruction (R82). -/
  invalidOpcodes : List Byte := [0xD3, 0xDB, 0xDD, 0xE3, 0xE4, 0xEB, 0xEC, 0xED, 0xF4, 0xFC, 0xFD]
  /-- `INT_VECTORS`, the platform's service vectors (R308). CORE takes any vector (D24). -/
  intVectors : List Word := [0x0040, 0x0048, 0x0050, 0x0058, 0x0060]
deriving DecidableEq, Repr

/-- This machine's parameters: the defaults of R4. -/
def params : Params := {}

/-- DESIGN CHOICE (log 5, unsafe): `fault_opcode` at reset. R38 and R340 leave it unspecified while `faulted = 0`. -/
def resetFaultOpcode : Byte := 0x00

/-- DESIGN CHOICE (log 3, unsafe): what a byte of memory that nothing has written reads as. The contents of memory
after reset are the memory collaborator's (R342, I10). -/
def unlistedByte : Byte := 0x00

/-- The prefix byte that selects the CB space (R73). -/
def cbPrefixByte : Byte := 0xCB

/-- The opcode of `STOP`, the one instruction whose second byte is stepped over without being read (R272). -/
def stopByte : Byte := 0x10

end Sys2Proof.Config
end

