-- ==== Sys2Proof/WellFormed.lean ====
section
/-! DEFINITION. Well-formedness of instructions. Registers, bit numbers, conditions and targets are constructors, and
every `n`, `e` and `nn` is legal (R83), so one check is left: the row `PREFIX CB` of the table is not an instruction. -/

namespace Sys2Proof

/-- The prefix is "Not an instruction: it has no behaviour of its own and can never retire alone" (R276, R73). -/
def Instr.isInstruction : Instr → Bool
  | .cbPrefix => false
  | _ => true

/-- An instruction a program can hold. -/
def Instr.wf (i : Instr) : Bool := i.isInstruction

end Sys2Proof
end

