-- ==== Sys2Proof/Decode.lean ====
section
/-! DEFINITION. The decoder (R70 to R84, R113, R114), from the field views of R77 to R81; then the encoder, from the
"Encoding" lines of the instruction rules. Both go through `Form`; `instrOf` and `formOf` are the table's rows read in
the two directions. -/

namespace Sys2Proof

/-! ## Bytes and fields -/

/-- `hi(v) = v[15:8]` (R5). -/
def hi (v : Word) : Byte := v.extractLsb' 8 8

/-- `lo(v) = v[7:0]` (R5). -/
def lo (v : Word) : Byte := v.extractLsb' 0 8

/-- `{h, l}`, the high byte first (R5). -/
def mk16 (h l : Byte) : Word := h ++ l

/-- `x = op[7:6]` (R71). -/
def opX (b : Byte) : BitVec 2 := b.extractLsb' 6 2

/-- `y = op[5:3]` (R71). -/
def opY (b : Byte) : BitVec 3 := b.extractLsb' 3 3

/-- `z = op[2:0]` (R71). -/
def opZ (b : Byte) : BitVec 3 := b.extractLsb' 0 3

/-- `p = op[5:4] = y[2:1]` (R71). -/
def opP (b : Byte) : BitVec 2 := b.extractLsb' 4 2

/-- `q = op[3] = y[0]` (R71). -/
def opQ (b : Byte) : Bool := b.getLsbD 3

/-! ## The operand index tables (R75) -/

/-- Column `r`. -/
def opnd8Of (i : BitVec 3) : Opnd8 :=
  match i.toNat with
  | 0 => .reg .B
  | 1 => .reg .C
  | 2 => .reg .D
  | 3 => .reg .E
  | 4 => .reg .H
  | 5 => .reg .L
  | 6 => .atHL
  | _ => .reg .A

/-- Column `rp`. -/
def pairOf (i : BitVec 2) : Pair :=
  match i.toNat with
  | 0 => .BC
  | 1 => .DE
  | 2 => .HL
  | _ => .SP

/-- Column `rp2`. -/
def stackPairOf (i : BitVec 2) : StackPair :=
  match i.toNat with
  | 0 => .BC
  | 1 => .DE
  | 2 => .HL
  | _ => .AF

/-- Column `cc`, indexed by the low two bits of `y` (R250: `cc[y & 3]`). -/
def condOf (y : BitVec 3) : Cond :=
  match y.toNat % 4 with
  | 0 => .NZ
  | 1 => .Z
  | 2 => .NC
  | _ => .C

/-- Column `alu`. -/
def aluOf (y : BitVec 3) : AluOp :=
  match y.toNat with
  | 0 => .add
  | 1 => .adc
  | 2 => .sub
  | 3 => .sbc
  | 4 => .and
  | 5 => .xor
  | 6 => .or
  | _ => .cp

/-- Column `rot`. -/
def rotOf (y : BitVec 3) : RotOp :=
  match y.toNat with
  | 0 => .rlc
  | 1 => .rrc
  | 2 => .rl
  | 3 => .rr
  | 4 => .sla
  | 5 => .sra
  | 6 => .swap
  | _ => .srl

/-- The bit number `b = cbop[5:3]`, used as is (R72). -/
def bitNoOf (y : BitVec 3) : BitNo :=
  match y.toNat with
  | 0 => .b0
  | 1 => .b1
  | 2 => .b2
  | 3 => .b3
  | 4 => .b4
  | 5 => .b5
  | 6 => .b6
  | _ => .b7

/-- The restart target `t = op[5:3] * 8` (R72). -/
def rstOf (y : BitVec 3) : RstTarget :=
  match y.toNat with
  | 0 => .t00
  | 1 => .t08
  | 2 => .t10
  | 3 => .t18
  | 4 => .t20
  | 5 => .t28
  | 6 => .t30
  | _ => .t38

/-- The address operands `(BC) (DE) (HL+) (HL-)` for `p = 0..3` (R77, field view of `z = 2`). -/
def accModeOf (p : BitVec 2) : AccMode :=
  match p.toNat with
  | 0 => .atBC
  | 1 => .atDE
  | 2 => .atHLinc
  | _ => .atHLdec

/-- The right operand of an accumulator operation in the block `x = 2` (R79). -/
def aluSrcOf (z : BitVec 3) : AluSrc :=
  match opnd8Of z with
  | .reg r => .reg r
  | .atHL => .atHL

/-! ## The plain space (R77 to R80), by the field views -/

/-- The accumulator and flag operations of `z = 7` (R77). -/
def accOpOf (y : BitVec 3) : Form :=
  match y.toNat with
  | 0 => .rlca
  | 1 => .rrca
  | 2 => .rla
  | 3 => .rra
  | 4 => .daa
  | 5 => .cpl
  | 6 => .scf
  | _ => .ccf

/-- `x = 0` (R77). -/
def plainX0 (op n : Byte) (nn : Word) : Form :=
  match (opZ op).toNat with
  | 0 =>
    match (opY op).toNat with
    | 0 => .nop
    | 1 => .ldAtNnSP nn
    | 2 => .stop
    | 3 => .jr n
    | _ => .jrCond (condOf (opY op)) n
  | 1 => bif opQ op then .addHL (pairOf (opP op)) else .ldPairImm (pairOf (opP op)) nn
  | 2 => bif opQ op then .loadA (accModeOf (opP op)) else .storeA (accModeOf (opP op))
  | 3 => bif opQ op then .decPair (pairOf (opP op)) else .incPair (pairOf (opP op))
  | 4 =>
    match opnd8Of (opY op) with
    | .reg r => .incReg r
    | .atHL => .incAtHL
  | 5 =>
    match opnd8Of (opY op) with
    | .reg r => .decReg r
    | .atHL => .decAtHL
  | 6 =>
    match opnd8Of (opY op) with
    | .reg r => .ldRegImm r n
    | .atHL => .ldAtHLImm n
  | _ => accOpOf (opY op)

/-- `x = 1` (R78): `LD r[y],r[z]`, and `HALT` where both indices are 6. -/
def plainX1 (op : Byte) : Form :=
  match opnd8Of (opY op), opnd8Of (opZ op) with
  | .reg d, .reg r => .ldRegReg d r
  | .reg d, .atHL => .ldRegAtHL d
  | .atHL, .reg r => .ldAtHLReg r
  | .atHL, .atHL => .halt

/-- `x = 2` (R79): `alu[y] A,r[z]`. -/
def plainX2 (op : Byte) : Form := .alu (aluOf (opY op)) (aluSrcOf (opZ op))

/-- `x = 3` (R80), with the gaps of R82. -/
def plainX3 (op n : Byte) (nn : Word) : Form :=
  match (opZ op).toNat with
  | 0 =>
    match (opY op).toNat with
    | 4 => .storeA (.atHighN n)
    | 5 => .addSPe n
    | 6 => .loadA (.atHighN n)
    | 7 => .ldHLSPe n
    | _ => .retCond (condOf (opY op))
  | 1 =>
    bif opQ op then
      match (opP op).toNat with
      | 0 => .ret
      | 1 => .reti
      | 2 => .jpHL
      | _ => .ldSPHL
    else .pop (stackPairOf (opP op))
  | 2 =>
    match (opY op).toNat with
    | 4 => .storeA .atHighC
    | 5 => .storeA (.atNn nn)
    | 6 => .loadA .atHighC
    | 7 => .loadA (.atNn nn)
    | _ => .jpCond (condOf (opY op)) nn
  | 3 =>
    match (opY op).toNat with
    | 0 => .jp nn
    | 1 => .cbPrefix
    | 2 => .invalid .xD3
    | 3 => .invalid .xDB
    | 4 => .invalid .xE3
    | 5 => .invalid .xEB
    | 6 => .di
    | _ => .ei
  | 4 =>
    match (opY op).toNat with
    | 4 => .invalid .xE4
    | 5 => .invalid .xEC
    | 6 => .invalid .xF4
    | 7 => .invalid .xFC
    | _ => .callCond (condOf (opY op)) nn
  | 5 =>
    bif opQ op then
      match (opP op).toNat with
      | 0 => .call nn
      | 1 => .invalid .xDD
      | 2 => .invalid .xED
      | _ => .invalid .xFD
    else .push (stackPairOf (opP op))
  | 6 => .alu (aluOf (opY op)) (.imm n)
  | _ => .rst (rstOf (opY op))

/-- The table of the plain space (R77 to R80, R113), with the two bytes after the opcode as its immediates: `n` (or `e`)
is the first, `nn` is both, low byte first (R72). -/
def plainForm (op b1 b2 : Byte) : Form :=
  match (opX op).toNat with
  | 0 => plainX0 op b1 (mk16 b2 b1)
  | 1 => plainX1 op
  | 2 => plainX2 op
  | _ => plainX3 op b1 (mk16 b2 b1)

/-! ## The CB space (R81) -/

/-- `decode(CB, cbop)` (R114). -/
def cbFormOf (cbop : Byte) : CbForm :=
  match (opX cbop).toNat with
  | 0 => .rot (rotOf (opY cbop)) (opnd8Of (opZ cbop))
  | 1 => .bit (bitNoOf (opY cbop)) (opnd8Of (opZ cbop))
  | 2 => .res (bitNoOf (opY cbop)) (opnd8Of (opZ cbop))
  | _ => .set (bitNoOf (opY cbop)) (opnd8Of (opZ cbop))

/-! ## The decode function (R114) -/

/-- What `decode` returns: the behaviour of a table entry, or the invalid-opcode behaviour of the byte `b` (R114). -/
inductive Behaviour
  | form (f : Form)
  | invalid (b : Byte)
deriving DecidableEq, Repr

/-- `decode(plain, op)` with the parameter `INVALID_OPCODES` (R82, R114). -/
def plainBehaviour (invalidOpcodes : List Byte) (op b1 b2 : Byte) : Behaviour :=
  bif invalidOpcodes.contains op then .invalid op else .form (plainForm op b1 b2)

/-- The driver's decode with the parameter `INVALID_OPCODES` (R73, R114, R116): the prefix selects the CB space, any other
first byte the plain space. -/
def behaviourOf (invalidOpcodes : List Byte) (b0 b1 b2 : Byte) : Behaviour :=
  bif b0 == Config.cbPrefixByte then .form (.cb (cbFormOf b1)) else plainBehaviour invalidOpcodes b0 b1 b2

/-- The row of the table for an invalid opcode; it has rows for the eleven bytes of R82 alone. -/
def invalidRow (b : Byte) : Option InvalidOp :=
  match b.toNat with
  | 0xD3 => some .xD3
  | 0xDB => some .xDB
  | 0xDD => some .xDD
  | 0xE3 => some .xE3
  | 0xE4 => some .xE4
  | 0xEB => some .xEB
  | 0xEC => some .xEC
  | 0xED => some .xED
  | 0xF4 => some .xF4
  | 0xFC => some .xFC
  | 0xFD => some .xFD
  | _ => none

/-- The row of the table for a behaviour, where it has one. -/
def Behaviour.row : Behaviour → Option Form
  | .form f => some f
  | .invalid b => (invalidRow b).map .invalid

/-- The decode at the default `INVALID_OPCODES`, as a row: there every behaviour has one (R84, R88). -/
def decodeForm (b0 b1 b2 : Byte) : Form :=
  (behaviourOf Config.params.invalidOpcodes b0 b1 b2).row.getD (plainForm b0 b1 b2)

/-! ## The table's rows: from a form to its constructor -/

/-- `LD r,r'` (R131). -/
def ldRegRegInstr : Reg8 → Reg8 → Instr
  | .B, .B => .ld_B_B
  | .B, .C => .ld_B_C
  | .B, .D => .ld_B_D
  | .B, .E => .ld_B_E
  | .B, .H => .ld_B_H
  | .B, .L => .ld_B_L
  | .B, .A => .ld_B_A
  | .C, .B => .ld_C_B
  | .C, .C => .ld_C_C
  | .C, .D => .ld_C_D
  | .C, .E => .ld_C_E
  | .C, .H => .ld_C_H
  | .C, .L => .ld_C_L
  | .C, .A => .ld_C_A
  | .D, .B => .ld_D_B
  | .D, .C => .ld_D_C
  | .D, .D => .ld_D_D
  | .D, .E => .ld_D_E
  | .D, .H => .ld_D_H
  | .D, .L => .ld_D_L
  | .D, .A => .ld_D_A
  | .E, .B => .ld_E_B
  | .E, .C => .ld_E_C
  | .E, .D => .ld_E_D
  | .E, .E => .ld_E_E
  | .E, .H => .ld_E_H
  | .E, .L => .ld_E_L
  | .E, .A => .ld_E_A
  | .H, .B => .ld_H_B
  | .H, .C => .ld_H_C
  | .H, .D => .ld_H_D
  | .H, .E => .ld_H_E
  | .H, .H => .ld_H_H
  | .H, .L => .ld_H_L
  | .H, .A => .ld_H_A
  | .L, .B => .ld_L_B
  | .L, .C => .ld_L_C
  | .L, .D => .ld_L_D
  | .L, .E => .ld_L_E
  | .L, .H => .ld_L_H
  | .L, .L => .ld_L_L
  | .L, .A => .ld_L_A
  | .A, .B => .ld_A_B
  | .A, .C => .ld_A_C
  | .A, .D => .ld_A_D
  | .A, .E => .ld_A_E
  | .A, .H => .ld_A_H
  | .A, .L => .ld_A_L
  | .A, .A => .ld_A_A

/-- `LD r,n` (R132). -/
def ldRegImmInstr : Reg8 → Byte → Instr
  | .B, n => .ld_B_n n
  | .C, n => .ld_C_n n
  | .D, n => .ld_D_n n
  | .E, n => .ld_E_n n
  | .H, n => .ld_H_n n
  | .L, n => .ld_L_n n
  | .A, n => .ld_A_n n

/-- `LD r,(HL)` (R133). -/
def ldRegAtHLInstr : Reg8 → Instr
  | .B => .ld_B_atHL
  | .C => .ld_C_atHL
  | .D => .ld_D_atHL
  | .E => .ld_E_atHL
  | .H => .ld_H_atHL
  | .L => .ld_L_atHL
  | .A => .ld_A_atHL

/-- `LD (HL),r` (R134). -/
def ldAtHLRegInstr : Reg8 → Instr
  | .B => .ld_atHL_B
  | .C => .ld_atHL_C
  | .D => .ld_atHL_D
  | .E => .ld_atHL_E
  | .H => .ld_atHL_H
  | .L => .ld_atHL_L
  | .A => .ld_atHL_A

/-- `LD A,(..)` and `LDH A,(..)` (R136, R137, R140, R142, R144, R146, R148). -/
def loadAInstr : AccMode → Instr
  | .atBC => .ld_A_atBC
  | .atDE => .ld_A_atDE
  | .atHLinc => .ld_A_atHLinc
  | .atHLdec => .ld_A_atHLdec
  | (.atHighN n) => .ldh_A_atN n
  | .atHighC => .ldh_A_atC
  | (.atNn nn) => .ld_A_atNn nn

/-- `LD (..),A` and `LDH (..),A` (R138, R139, R141, R143, R145, R147, R149). -/
def storeAInstr : AccMode → Instr
  | .atBC => .ld_atBC_A
  | .atDE => .ld_atDE_A
  | .atHLinc => .ld_atHLinc_A
  | .atHLdec => .ld_atHLdec_A
  | (.atHighN n) => .ldh_atN_A n
  | .atHighC => .ldh_atC_A
  | (.atNn nn) => .ld_atNn_A nn

/-- `LD rr,nn` (R161). -/
def ldPairImmInstr : Pair → Word → Instr
  | .BC, nn => .ld_BC_nn nn
  | .DE, nn => .ld_DE_nn nn
  | .HL, nn => .ld_HL_nn nn
  | .SP, nn => .ld_SP_nn nn

/-- `PUSH rr` (R164). -/
def pushInstr : StackPair → Instr
  | .BC => .push_BC
  | .DE => .push_DE
  | .HL => .push_HL
  | .AF => .push_AF

/-- `POP rr` (R165). -/
def popInstr : StackPair → Instr
  | .BC => .pop_BC
  | .DE => .pop_DE
  | .HL => .pop_HL
  | .AF => .pop_AF

/-- The eight accumulator operations, three forms each (R176 to R199). -/
def aluInstr : AluOp → AluSrc → Instr
  | .add, (.reg .B) => .add_A_B
  | .add, (.reg .C) => .add_A_C
  | .add, (.reg .D) => .add_A_D
  | .add, (.reg .E) => .add_A_E
  | .add, (.reg .H) => .add_A_H
  | .add, (.reg .L) => .add_A_L
  | .add, .atHL => .add_A_atHL
  | .add, (.reg .A) => .add_A_A
  | .adc, (.reg .B) => .adc_A_B
  | .adc, (.reg .C) => .adc_A_C
  | .adc, (.reg .D) => .adc_A_D
  | .adc, (.reg .E) => .adc_A_E
  | .adc, (.reg .H) => .adc_A_H
  | .adc, (.reg .L) => .adc_A_L
  | .adc, .atHL => .adc_A_atHL
  | .adc, (.reg .A) => .adc_A_A
  | .sub, (.reg .B) => .sub_B
  | .sub, (.reg .C) => .sub_C
  | .sub, (.reg .D) => .sub_D
  | .sub, (.reg .E) => .sub_E
  | .sub, (.reg .H) => .sub_H
  | .sub, (.reg .L) => .sub_L
  | .sub, .atHL => .sub_atHL
  | .sub, (.reg .A) => .sub_A
  | .sbc, (.reg .B) => .sbc_A_B
  | .sbc, (.reg .C) => .sbc_A_C
  | .sbc, (.reg .D) => .sbc_A_D
  | .sbc, (.reg .E) => .sbc_A_E
  | .sbc, (.reg .H) => .sbc_A_H
  | .sbc, (.reg .L) => .sbc_A_L
  | .sbc, .atHL => .sbc_A_atHL
  | .sbc, (.reg .A) => .sbc_A_A
  | .and, (.reg .B) => .and_B
  | .and, (.reg .C) => .and_C
  | .and, (.reg .D) => .and_D
  | .and, (.reg .E) => .and_E
  | .and, (.reg .H) => .and_H
  | .and, (.reg .L) => .and_L
  | .and, .atHL => .and_atHL
  | .and, (.reg .A) => .and_A
  | .xor, (.reg .B) => .xor_B
  | .xor, (.reg .C) => .xor_C
  | .xor, (.reg .D) => .xor_D
  | .xor, (.reg .E) => .xor_E
  | .xor, (.reg .H) => .xor_H
  | .xor, (.reg .L) => .xor_L
  | .xor, .atHL => .xor_atHL
  | .xor, (.reg .A) => .xor_A
  | .or, (.reg .B) => .or_B
  | .or, (.reg .C) => .or_C
  | .or, (.reg .D) => .or_D
  | .or, (.reg .E) => .or_E
  | .or, (.reg .H) => .or_H
  | .or, (.reg .L) => .or_L
  | .or, .atHL => .or_atHL
  | .or, (.reg .A) => .or_A
  | .cp, (.reg .B) => .cp_B
  | .cp, (.reg .C) => .cp_C
  | .cp, (.reg .D) => .cp_D
  | .cp, (.reg .E) => .cp_E
  | .cp, (.reg .H) => .cp_H
  | .cp, (.reg .L) => .cp_L
  | .cp, .atHL => .cp_atHL
  | .cp, (.reg .A) => .cp_A
  | .add, (.imm n) => .add_A_n n
  | .adc, (.imm n) => .adc_A_n n
  | .sub, (.imm n) => .sub_n n
  | .sbc, (.imm n) => .sbc_A_n n
  | .and, (.imm n) => .and_n n
  | .xor, (.imm n) => .xor_n n
  | .or, (.imm n) => .or_n n
  | .cp, (.imm n) => .cp_n n

/-- `INC r` (R200). -/
def incRegInstr : Reg8 → Instr
  | .B => .inc_B
  | .C => .inc_C
  | .D => .inc_D
  | .E => .inc_E
  | .H => .inc_H
  | .L => .inc_L
  | .A => .inc_A

/-- `DEC r` (R202). -/
def decRegInstr : Reg8 → Instr
  | .B => .dec_B
  | .C => .dec_C
  | .D => .dec_D
  | .E => .dec_E
  | .H => .dec_H
  | .L => .dec_L
  | .A => .dec_A

/-- `ADD HL,rr` (R211). -/
def addHLInstr : Pair → Instr
  | .BC => .add_HL_BC
  | .DE => .add_HL_DE
  | .HL => .add_HL_HL
  | .SP => .add_HL_SP

/-- `INC rr` (R212). -/
def incPairInstr : Pair → Instr
  | .BC => .inc_BC
  | .DE => .inc_DE
  | .HL => .inc_HL
  | .SP => .inc_SP

/-- `DEC rr` (R213). -/
def decPairInstr : Pair → Instr
  | .BC => .dec_BC
  | .DE => .dec_DE
  | .HL => .dec_HL
  | .SP => .dec_SP

/-- `JP cc,nn` (R252). -/
def jpCondInstr : Cond → Word → Instr
  | .NZ, nn => .jp_NZ_nn nn
  | .Z, nn => .jp_Z_nn nn
  | .NC, nn => .jp_NC_nn nn
  | .C, nn => .jp_C_nn nn

/-- `JR cc,e` (R255). -/
def jrCondInstr : Cond → Byte → Instr
  | .NZ, e => .jr_NZ_e e
  | .Z, e => .jr_Z_e e
  | .NC, e => .jr_NC_e e
  | .C, e => .jr_C_e e

/-- `CALL cc,nn` (R257). -/
def callCondInstr : Cond → Word → Instr
  | .NZ, nn => .call_NZ_nn nn
  | .Z, nn => .call_Z_nn nn
  | .NC, nn => .call_NC_nn nn
  | .C, nn => .call_C_nn nn

/-- `RET cc` (R259). -/
def retCondInstr : Cond → Instr
  | .NZ => .ret_NZ
  | .Z => .ret_Z
  | .NC => .ret_NC
  | .C => .ret_C

/-- `RST t` (R261). -/
def rstInstr : RstTarget → Instr
  | .t00 => .rst_00
  | .t08 => .rst_08
  | .t10 => .rst_10
  | .t18 => .rst_18
  | .t20 => .rst_20
  | .t28 => .rst_28
  | .t30 => .rst_30
  | .t38 => .rst_38

/-- The invalid opcodes (R82, R275). -/
def invalidInstr : InvalidOp → Instr
  | .xD3 => .invalid_D3
  | .xDB => .invalid_DB
  | .xDD => .invalid_DD
  | .xE3 => .invalid_E3
  | .xE4 => .invalid_E4
  | .xEB => .invalid_EB
  | .xEC => .invalid_EC
  | .xED => .invalid_ED
  | .xF4 => .invalid_F4
  | .xFC => .invalid_FC
  | .xFD => .invalid_FD

/-- The rotates and shifts of the CB space (R225 to R240). -/
def rotInstr : RotOp → Opnd8 → Instr
  | .rlc, (.reg .B) => .rlc_B
  | .rlc, (.reg .C) => .rlc_C
  | .rlc, (.reg .D) => .rlc_D
  | .rlc, (.reg .E) => .rlc_E
  | .rlc, (.reg .H) => .rlc_H
  | .rlc, (.reg .L) => .rlc_L
  | .rlc, .atHL => .rlc_atHL
  | .rlc, (.reg .A) => .rlc_A
  | .rrc, (.reg .B) => .rrc_B
  | .rrc, (.reg .C) => .rrc_C
  | .rrc, (.reg .D) => .rrc_D
  | .rrc, (.reg .E) => .rrc_E
  | .rrc, (.reg .H) => .rrc_H
  | .rrc, (.reg .L) => .rrc_L
  | .rrc, .atHL => .rrc_atHL
  | .rrc, (.reg .A) => .rrc_A
  | .rl, (.reg .B) => .rl_B
  | .rl, (.reg .C) => .rl_C
  | .rl, (.reg .D) => .rl_D
  | .rl, (.reg .E) => .rl_E
  | .rl, (.reg .H) => .rl_H
  | .rl, (.reg .L) => .rl_L
  | .rl, .atHL => .rl_atHL
  | .rl, (.reg .A) => .rl_A
  | .rr, (.reg .B) => .rr_B
  | .rr, (.reg .C) => .rr_C
  | .rr, (.reg .D) => .rr_D
  | .rr, (.reg .E) => .rr_E
  | .rr, (.reg .H) => .rr_H
  | .rr, (.reg .L) => .rr_L
  | .rr, .atHL => .rr_atHL
  | .rr, (.reg .A) => .rr_A
  | .sla, (.reg .B) => .sla_B
  | .sla, (.reg .C) => .sla_C
  | .sla, (.reg .D) => .sla_D
  | .sla, (.reg .E) => .sla_E
  | .sla, (.reg .H) => .sla_H
  | .sla, (.reg .L) => .sla_L
  | .sla, .atHL => .sla_atHL
  | .sla, (.reg .A) => .sla_A
  | .sra, (.reg .B) => .sra_B
  | .sra, (.reg .C) => .sra_C
  | .sra, (.reg .D) => .sra_D
  | .sra, (.reg .E) => .sra_E
  | .sra, (.reg .H) => .sra_H
  | .sra, (.reg .L) => .sra_L
  | .sra, .atHL => .sra_atHL
  | .sra, (.reg .A) => .sra_A
  | .swap, (.reg .B) => .swap_B
  | .swap, (.reg .C) => .swap_C
  | .swap, (.reg .D) => .swap_D
  | .swap, (.reg .E) => .swap_E
  | .swap, (.reg .H) => .swap_H
  | .swap, (.reg .L) => .swap_L
  | .swap, .atHL => .swap_atHL
  | .swap, (.reg .A) => .swap_A
  | .srl, (.reg .B) => .srl_B
  | .srl, (.reg .C) => .srl_C
  | .srl, (.reg .D) => .srl_D
  | .srl, (.reg .E) => .srl_E
  | .srl, (.reg .H) => .srl_H
  | .srl, (.reg .L) => .srl_L
  | .srl, .atHL => .srl_atHL
  | .srl, (.reg .A) => .srl_A

/-- `BIT b` (R241, R242). -/
def bitInstr : BitNo → Opnd8 → Instr
  | .b0, (.reg .B) => .bit_0_B
  | .b0, (.reg .C) => .bit_0_C
  | .b0, (.reg .D) => .bit_0_D
  | .b0, (.reg .E) => .bit_0_E
  | .b0, (.reg .H) => .bit_0_H
  | .b0, (.reg .L) => .bit_0_L
  | .b0, .atHL => .bit_0_atHL
  | .b0, (.reg .A) => .bit_0_A
  | .b1, (.reg .B) => .bit_1_B
  | .b1, (.reg .C) => .bit_1_C
  | .b1, (.reg .D) => .bit_1_D
  | .b1, (.reg .E) => .bit_1_E
  | .b1, (.reg .H) => .bit_1_H
  | .b1, (.reg .L) => .bit_1_L
  | .b1, .atHL => .bit_1_atHL
  | .b1, (.reg .A) => .bit_1_A
  | .b2, (.reg .B) => .bit_2_B
  | .b2, (.reg .C) => .bit_2_C
  | .b2, (.reg .D) => .bit_2_D
  | .b2, (.reg .E) => .bit_2_E
  | .b2, (.reg .H) => .bit_2_H
  | .b2, (.reg .L) => .bit_2_L
  | .b2, .atHL => .bit_2_atHL
  | .b2, (.reg .A) => .bit_2_A
  | .b3, (.reg .B) => .bit_3_B
  | .b3, (.reg .C) => .bit_3_C
  | .b3, (.reg .D) => .bit_3_D
  | .b3, (.reg .E) => .bit_3_E
  | .b3, (.reg .H) => .bit_3_H
  | .b3, (.reg .L) => .bit_3_L
  | .b3, .atHL => .bit_3_atHL
  | .b3, (.reg .A) => .bit_3_A
  | .b4, (.reg .B) => .bit_4_B
  | .b4, (.reg .C) => .bit_4_C
  | .b4, (.reg .D) => .bit_4_D
  | .b4, (.reg .E) => .bit_4_E
  | .b4, (.reg .H) => .bit_4_H
  | .b4, (.reg .L) => .bit_4_L
  | .b4, .atHL => .bit_4_atHL
  | .b4, (.reg .A) => .bit_4_A
  | .b5, (.reg .B) => .bit_5_B
  | .b5, (.reg .C) => .bit_5_C
  | .b5, (.reg .D) => .bit_5_D
  | .b5, (.reg .E) => .bit_5_E
  | .b5, (.reg .H) => .bit_5_H
  | .b5, (.reg .L) => .bit_5_L
  | .b5, .atHL => .bit_5_atHL
  | .b5, (.reg .A) => .bit_5_A
  | .b6, (.reg .B) => .bit_6_B
  | .b6, (.reg .C) => .bit_6_C
  | .b6, (.reg .D) => .bit_6_D
  | .b6, (.reg .E) => .bit_6_E
  | .b6, (.reg .H) => .bit_6_H
  | .b6, (.reg .L) => .bit_6_L
  | .b6, .atHL => .bit_6_atHL
  | .b6, (.reg .A) => .bit_6_A
  | .b7, (.reg .B) => .bit_7_B
  | .b7, (.reg .C) => .bit_7_C
  | .b7, (.reg .D) => .bit_7_D
  | .b7, (.reg .E) => .bit_7_E
  | .b7, (.reg .H) => .bit_7_H
  | .b7, (.reg .L) => .bit_7_L
  | .b7, .atHL => .bit_7_atHL
  | .b7, (.reg .A) => .bit_7_A

/-- `RES b` (R243, R244). -/
def resInstr : BitNo → Opnd8 → Instr
  | .b0, (.reg .B) => .res_0_B
  | .b0, (.reg .C) => .res_0_C
  | .b0, (.reg .D) => .res_0_D
  | .b0, (.reg .E) => .res_0_E
  | .b0, (.reg .H) => .res_0_H
  | .b0, (.reg .L) => .res_0_L
  | .b0, .atHL => .res_0_atHL
  | .b0, (.reg .A) => .res_0_A
  | .b1, (.reg .B) => .res_1_B
  | .b1, (.reg .C) => .res_1_C
  | .b1, (.reg .D) => .res_1_D
  | .b1, (.reg .E) => .res_1_E
  | .b1, (.reg .H) => .res_1_H
  | .b1, (.reg .L) => .res_1_L
  | .b1, .atHL => .res_1_atHL
  | .b1, (.reg .A) => .res_1_A
  | .b2, (.reg .B) => .res_2_B
  | .b2, (.reg .C) => .res_2_C
  | .b2, (.reg .D) => .res_2_D
  | .b2, (.reg .E) => .res_2_E
  | .b2, (.reg .H) => .res_2_H
  | .b2, (.reg .L) => .res_2_L
  | .b2, .atHL => .res_2_atHL
  | .b2, (.reg .A) => .res_2_A
  | .b3, (.reg .B) => .res_3_B
  | .b3, (.reg .C) => .res_3_C
  | .b3, (.reg .D) => .res_3_D
  | .b3, (.reg .E) => .res_3_E
  | .b3, (.reg .H) => .res_3_H
  | .b3, (.reg .L) => .res_3_L
  | .b3, .atHL => .res_3_atHL
  | .b3, (.reg .A) => .res_3_A
  | .b4, (.reg .B) => .res_4_B
  | .b4, (.reg .C) => .res_4_C
  | .b4, (.reg .D) => .res_4_D
  | .b4, (.reg .E) => .res_4_E
  | .b4, (.reg .H) => .res_4_H
  | .b4, (.reg .L) => .res_4_L
  | .b4, .atHL => .res_4_atHL
  | .b4, (.reg .A) => .res_4_A
  | .b5, (.reg .B) => .res_5_B
  | .b5, (.reg .C) => .res_5_C
  | .b5, (.reg .D) => .res_5_D
  | .b5, (.reg .E) => .res_5_E
  | .b5, (.reg .H) => .res_5_H
  | .b5, (.reg .L) => .res_5_L
  | .b5, .atHL => .res_5_atHL
  | .b5, (.reg .A) => .res_5_A
  | .b6, (.reg .B) => .res_6_B
  | .b6, (.reg .C) => .res_6_C
  | .b6, (.reg .D) => .res_6_D
  | .b6, (.reg .E) => .res_6_E
  | .b6, (.reg .H) => .res_6_H
  | .b6, (.reg .L) => .res_6_L
  | .b6, .atHL => .res_6_atHL
  | .b6, (.reg .A) => .res_6_A
  | .b7, (.reg .B) => .res_7_B
  | .b7, (.reg .C) => .res_7_C
  | .b7, (.reg .D) => .res_7_D
  | .b7, (.reg .E) => .res_7_E
  | .b7, (.reg .H) => .res_7_H
  | .b7, (.reg .L) => .res_7_L
  | .b7, .atHL => .res_7_atHL
  | .b7, (.reg .A) => .res_7_A

/-- `SET b` (R245, R246). -/
def setInstr : BitNo → Opnd8 → Instr
  | .b0, (.reg .B) => .set_0_B
  | .b0, (.reg .C) => .set_0_C
  | .b0, (.reg .D) => .set_0_D
  | .b0, (.reg .E) => .set_0_E
  | .b0, (.reg .H) => .set_0_H
  | .b0, (.reg .L) => .set_0_L
  | .b0, .atHL => .set_0_atHL
  | .b0, (.reg .A) => .set_0_A
  | .b1, (.reg .B) => .set_1_B
  | .b1, (.reg .C) => .set_1_C
  | .b1, (.reg .D) => .set_1_D
  | .b1, (.reg .E) => .set_1_E
  | .b1, (.reg .H) => .set_1_H
  | .b1, (.reg .L) => .set_1_L
  | .b1, .atHL => .set_1_atHL
  | .b1, (.reg .A) => .set_1_A
  | .b2, (.reg .B) => .set_2_B
  | .b2, (.reg .C) => .set_2_C
  | .b2, (.reg .D) => .set_2_D
  | .b2, (.reg .E) => .set_2_E
  | .b2, (.reg .H) => .set_2_H
  | .b2, (.reg .L) => .set_2_L
  | .b2, .atHL => .set_2_atHL
  | .b2, (.reg .A) => .set_2_A
  | .b3, (.reg .B) => .set_3_B
  | .b3, (.reg .C) => .set_3_C
  | .b3, (.reg .D) => .set_3_D
  | .b3, (.reg .E) => .set_3_E
  | .b3, (.reg .H) => .set_3_H
  | .b3, (.reg .L) => .set_3_L
  | .b3, .atHL => .set_3_atHL
  | .b3, (.reg .A) => .set_3_A
  | .b4, (.reg .B) => .set_4_B
  | .b4, (.reg .C) => .set_4_C
  | .b4, (.reg .D) => .set_4_D
  | .b4, (.reg .E) => .set_4_E
  | .b4, (.reg .H) => .set_4_H
  | .b4, (.reg .L) => .set_4_L
  | .b4, .atHL => .set_4_atHL
  | .b4, (.reg .A) => .set_4_A
  | .b5, (.reg .B) => .set_5_B
  | .b5, (.reg .C) => .set_5_C
  | .b5, (.reg .D) => .set_5_D
  | .b5, (.reg .E) => .set_5_E
  | .b5, (.reg .H) => .set_5_H
  | .b5, (.reg .L) => .set_5_L
  | .b5, .atHL => .set_5_atHL
  | .b5, (.reg .A) => .set_5_A
  | .b6, (.reg .B) => .set_6_B
  | .b6, (.reg .C) => .set_6_C
  | .b6, (.reg .D) => .set_6_D
  | .b6, (.reg .E) => .set_6_E
  | .b6, (.reg .H) => .set_6_H
  | .b6, (.reg .L) => .set_6_L
  | .b6, .atHL => .set_6_atHL
  | .b6, (.reg .A) => .set_6_A
  | .b7, (.reg .B) => .set_7_B
  | .b7, (.reg .C) => .set_7_C
  | .b7, (.reg .D) => .set_7_D
  | .b7, (.reg .E) => .set_7_E
  | .b7, (.reg .H) => .set_7_H
  | .b7, (.reg .L) => .set_7_L
  | .b7, .atHL => .set_7_atHL
  | .b7, (.reg .A) => .set_7_A

/-- The CB-space rows of the table. -/
def cbInstr : CbForm → Instr
  | .rot op x => rotInstr op x
  | .bit b x => bitInstr b x
  | .res b x => resInstr b x
  | .set b x => setInstr b x

/-- The row of `spec/opcode_table.json` that a form is, with its operands. -/
def instrOf : Form → Instr
  | .nop => .nop
  | .halt => .halt
  | .stop => .stop
  | .di => .di
  | .ei => .ei
  | .cbPrefix => .cbPrefix
  | .ldAtHLImm n => .ld_atHL_n n
  | .ldAtNnSP nn => .ld_atNn_SP nn
  | .ldSPHL => .ld_SP_HL
  | .ldHLSPe e => .ld_HL_SPe e
  | .incAtHL => .inc_atHL
  | .decAtHL => .dec_atHL
  | .daa => .daa
  | .cpl => .cpl
  | .scf => .scf
  | .ccf => .ccf
  | .addSPe e => .add_SP_e e
  | .rlca => .rlca
  | .rrca => .rrca
  | .rla => .rla
  | .rra => .rra
  | .jp nn => .jp_nn nn
  | .jpHL => .jp_HL
  | .jr e => .jr_e e
  | .call nn => .call_nn nn
  | .ret => .ret
  | .reti => .reti
  | .cb c => cbInstr c
  | .ldRegReg a b => ldRegRegInstr a b
  | .ldRegImm a b => ldRegImmInstr a b
  | .ldRegAtHL a => ldRegAtHLInstr a
  | .ldAtHLReg a => ldAtHLRegInstr a
  | .loadA a => loadAInstr a
  | .storeA a => storeAInstr a
  | .ldPairImm a b => ldPairImmInstr a b
  | .push a => pushInstr a
  | .pop a => popInstr a
  | .alu a b => aluInstr a b
  | .incReg a => incRegInstr a
  | .decReg a => decRegInstr a
  | .addHL a => addHLInstr a
  | .incPair a => incPairInstr a
  | .decPair a => decPairInstr a
  | .jpCond a b => jpCondInstr a b
  | .jrCond a b => jrCondInstr a b
  | .callCond a b => callCondInstr a b
  | .retCond a => retCondInstr a
  | .rst a => rstInstr a
  | .invalid a => invalidInstr a

/-! ## The table's rows: from a constructor to its form -/

/-- The column "form" of `spec/opcode_table.json` with the row's operands. -/
def formOf : Instr → Form
  | .nop => .nop
  | .ld_BC_nn nn => .ldPairImm .BC nn
  | .ld_atBC_A => .storeA .atBC
  | .inc_BC => .incPair .BC
  | .inc_B => .incReg .B
  | .dec_B => .decReg .B
  | .ld_B_n n => .ldRegImm .B n
  | .rlca => .rlca
  | .ld_atNn_SP nn => .ldAtNnSP nn
  | .add_HL_BC => .addHL .BC
  | .ld_A_atBC => .loadA .atBC
  | .dec_BC => .decPair .BC
  | .inc_C => .incReg .C
  | .dec_C => .decReg .C
  | .ld_C_n n => .ldRegImm .C n
  | .rrca => .rrca
  | .stop => .stop
  | .ld_DE_nn nn => .ldPairImm .DE nn
  | .ld_atDE_A => .storeA .atDE
  | .inc_DE => .incPair .DE
  | .inc_D => .incReg .D
  | .dec_D => .decReg .D
  | .ld_D_n n => .ldRegImm .D n
  | .rla => .rla
  | .jr_e e => .jr e
  | .add_HL_DE => .addHL .DE
  | .ld_A_atDE => .loadA .atDE
  | .dec_DE => .decPair .DE
  | .inc_E => .incReg .E
  | .dec_E => .decReg .E
  | .ld_E_n n => .ldRegImm .E n
  | .rra => .rra
  | .jr_NZ_e e => .jrCond .NZ e
  | .ld_HL_nn nn => .ldPairImm .HL nn
  | .ld_atHLinc_A => .storeA .atHLinc
  | .inc_HL => .incPair .HL
  | .inc_H => .incReg .H
  | .dec_H => .decReg .H
  | .ld_H_n n => .ldRegImm .H n
  | .daa => .daa
  | .jr_Z_e e => .jrCond .Z e
  | .add_HL_HL => .addHL .HL
  | .ld_A_atHLinc => .loadA .atHLinc
  | .dec_HL => .decPair .HL
  | .inc_L => .incReg .L
  | .dec_L => .decReg .L
  | .ld_L_n n => .ldRegImm .L n
  | .cpl => .cpl
  | .jr_NC_e e => .jrCond .NC e
  | .ld_SP_nn nn => .ldPairImm .SP nn
  | .ld_atHLdec_A => .storeA .atHLdec
  | .inc_SP => .incPair .SP
  | .inc_atHL => .incAtHL
  | .dec_atHL => .decAtHL
  | .ld_atHL_n n => .ldAtHLImm n
  | .scf => .scf
  | .jr_C_e e => .jrCond .C e
  | .add_HL_SP => .addHL .SP
  | .ld_A_atHLdec => .loadA .atHLdec
  | .dec_SP => .decPair .SP
  | .inc_A => .incReg .A
  | .dec_A => .decReg .A
  | .ld_A_n n => .ldRegImm .A n
  | .ccf => .ccf
  | .ld_B_B => .ldRegReg .B .B
  | .ld_B_C => .ldRegReg .B .C
  | .ld_B_D => .ldRegReg .B .D
  | .ld_B_E => .ldRegReg .B .E
  | .ld_B_H => .ldRegReg .B .H
  | .ld_B_L => .ldRegReg .B .L
  | .ld_B_atHL => .ldRegAtHL .B
  | .ld_B_A => .ldRegReg .B .A
  | .ld_C_B => .ldRegReg .C .B
  | .ld_C_C => .ldRegReg .C .C
  | .ld_C_D => .ldRegReg .C .D
  | .ld_C_E => .ldRegReg .C .E
  | .ld_C_H => .ldRegReg .C .H
  | .ld_C_L => .ldRegReg .C .L
  | .ld_C_atHL => .ldRegAtHL .C
  | .ld_C_A => .ldRegReg .C .A
  | .ld_D_B => .ldRegReg .D .B
  | .ld_D_C => .ldRegReg .D .C
  | .ld_D_D => .ldRegReg .D .D
  | .ld_D_E => .ldRegReg .D .E
  | .ld_D_H => .ldRegReg .D .H
  | .ld_D_L => .ldRegReg .D .L
  | .ld_D_atHL => .ldRegAtHL .D
  | .ld_D_A => .ldRegReg .D .A
  | .ld_E_B => .ldRegReg .E .B
  | .ld_E_C => .ldRegReg .E .C
  | .ld_E_D => .ldRegReg .E .D
  | .ld_E_E => .ldRegReg .E .E
  | .ld_E_H => .ldRegReg .E .H
  | .ld_E_L => .ldRegReg .E .L
  | .ld_E_atHL => .ldRegAtHL .E
  | .ld_E_A => .ldRegReg .E .A
  | .ld_H_B => .ldRegReg .H .B
  | .ld_H_C => .ldRegReg .H .C
  | .ld_H_D => .ldRegReg .H .D
  | .ld_H_E => .ldRegReg .H .E
  | .ld_H_H => .ldRegReg .H .H
  | .ld_H_L => .ldRegReg .H .L
  | .ld_H_atHL => .ldRegAtHL .H
  | .ld_H_A => .ldRegReg .H .A
  | .ld_L_B => .ldRegReg .L .B
  | .ld_L_C => .ldRegReg .L .C
  | .ld_L_D => .ldRegReg .L .D
  | .ld_L_E => .ldRegReg .L .E
  | .ld_L_H => .ldRegReg .L .H
  | .ld_L_L => .ldRegReg .L .L
  | .ld_L_atHL => .ldRegAtHL .L
  | .ld_L_A => .ldRegReg .L .A
  | .ld_atHL_B => .ldAtHLReg .B
  | .ld_atHL_C => .ldAtHLReg .C
  | .ld_atHL_D => .ldAtHLReg .D
  | .ld_atHL_E => .ldAtHLReg .E
  | .ld_atHL_H => .ldAtHLReg .H
  | .ld_atHL_L => .ldAtHLReg .L
  | .halt => .halt
  | .ld_atHL_A => .ldAtHLReg .A
  | .ld_A_B => .ldRegReg .A .B
  | .ld_A_C => .ldRegReg .A .C
  | .ld_A_D => .ldRegReg .A .D
  | .ld_A_E => .ldRegReg .A .E
  | .ld_A_H => .ldRegReg .A .H
  | .ld_A_L => .ldRegReg .A .L
  | .ld_A_atHL => .ldRegAtHL .A
  | .ld_A_A => .ldRegReg .A .A
  | .add_A_B => .alu .add (.reg .B)
  | .add_A_C => .alu .add (.reg .C)
  | .add_A_D => .alu .add (.reg .D)
  | .add_A_E => .alu .add (.reg .E)
  | .add_A_H => .alu .add (.reg .H)
  | .add_A_L => .alu .add (.reg .L)
  | .add_A_atHL => .alu .add .atHL
  | .add_A_A => .alu .add (.reg .A)
  | .adc_A_B => .alu .adc (.reg .B)
  | .adc_A_C => .alu .adc (.reg .C)
  | .adc_A_D => .alu .adc (.reg .D)
  | .adc_A_E => .alu .adc (.reg .E)
  | .adc_A_H => .alu .adc (.reg .H)
  | .adc_A_L => .alu .adc (.reg .L)
  | .adc_A_atHL => .alu .adc .atHL
  | .adc_A_A => .alu .adc (.reg .A)
  | .sub_B => .alu .sub (.reg .B)
  | .sub_C => .alu .sub (.reg .C)
  | .sub_D => .alu .sub (.reg .D)
  | .sub_E => .alu .sub (.reg .E)
  | .sub_H => .alu .sub (.reg .H)
  | .sub_L => .alu .sub (.reg .L)
  | .sub_atHL => .alu .sub .atHL
  | .sub_A => .alu .sub (.reg .A)
  | .sbc_A_B => .alu .sbc (.reg .B)
  | .sbc_A_C => .alu .sbc (.reg .C)
  | .sbc_A_D => .alu .sbc (.reg .D)
  | .sbc_A_E => .alu .sbc (.reg .E)
  | .sbc_A_H => .alu .sbc (.reg .H)
  | .sbc_A_L => .alu .sbc (.reg .L)
  | .sbc_A_atHL => .alu .sbc .atHL
  | .sbc_A_A => .alu .sbc (.reg .A)
  | .and_B => .alu .and (.reg .B)
  | .and_C => .alu .and (.reg .C)
  | .and_D => .alu .and (.reg .D)
  | .and_E => .alu .and (.reg .E)
  | .and_H => .alu .and (.reg .H)
  | .and_L => .alu .and (.reg .L)
  | .and_atHL => .alu .and .atHL
  | .and_A => .alu .and (.reg .A)
  | .xor_B => .alu .xor (.reg .B)
  | .xor_C => .alu .xor (.reg .C)
  | .xor_D => .alu .xor (.reg .D)
  | .xor_E => .alu .xor (.reg .E)
  | .xor_H => .alu .xor (.reg .H)
  | .xor_L => .alu .xor (.reg .L)
  | .xor_atHL => .alu .xor .atHL
  | .xor_A => .alu .xor (.reg .A)
  | .or_B => .alu .or (.reg .B)
  | .or_C => .alu .or (.reg .C)
  | .or_D => .alu .or (.reg .D)
  | .or_E => .alu .or (.reg .E)
  | .or_H => .alu .or (.reg .H)
  | .or_L => .alu .or (.reg .L)
  | .or_atHL => .alu .or .atHL
  | .or_A => .alu .or (.reg .A)
  | .cp_B => .alu .cp (.reg .B)
  | .cp_C => .alu .cp (.reg .C)
  | .cp_D => .alu .cp (.reg .D)
  | .cp_E => .alu .cp (.reg .E)
  | .cp_H => .alu .cp (.reg .H)
  | .cp_L => .alu .cp (.reg .L)
  | .cp_atHL => .alu .cp .atHL
  | .cp_A => .alu .cp (.reg .A)
  | .ret_NZ => .retCond .NZ
  | .pop_BC => .pop .BC
  | .jp_NZ_nn nn => .jpCond .NZ nn
  | .jp_nn nn => .jp nn
  | .call_NZ_nn nn => .callCond .NZ nn
  | .push_BC => .push .BC
  | .add_A_n n => .alu .add (.imm n)
  | .rst_00 => .rst .t00
  | .ret_Z => .retCond .Z
  | .ret => .ret
  | .jp_Z_nn nn => .jpCond .Z nn
  | .cbPrefix => .cbPrefix
  | .call_Z_nn nn => .callCond .Z nn
  | .call_nn nn => .call nn
  | .adc_A_n n => .alu .adc (.imm n)
  | .rst_08 => .rst .t08
  | .ret_NC => .retCond .NC
  | .pop_DE => .pop .DE
  | .jp_NC_nn nn => .jpCond .NC nn
  | .invalid_D3 => .invalid .xD3
  | .call_NC_nn nn => .callCond .NC nn
  | .push_DE => .push .DE
  | .sub_n n => .alu .sub (.imm n)
  | .rst_10 => .rst .t10
  | .ret_C => .retCond .C
  | .reti => .reti
  | .jp_C_nn nn => .jpCond .C nn
  | .invalid_DB => .invalid .xDB
  | .call_C_nn nn => .callCond .C nn
  | .invalid_DD => .invalid .xDD
  | .sbc_A_n n => .alu .sbc (.imm n)
  | .rst_18 => .rst .t18
  | .ldh_atN_A n => .storeA (.atHighN n)
  | .pop_HL => .pop .HL
  | .ldh_atC_A => .storeA .atHighC
  | .invalid_E3 => .invalid .xE3
  | .invalid_E4 => .invalid .xE4
  | .push_HL => .push .HL
  | .and_n n => .alu .and (.imm n)
  | .rst_20 => .rst .t20
  | .add_SP_e e => .addSPe e
  | .jp_HL => .jpHL
  | .ld_atNn_A nn => .storeA (.atNn nn)
  | .invalid_EB => .invalid .xEB
  | .invalid_EC => .invalid .xEC
  | .invalid_ED => .invalid .xED
  | .xor_n n => .alu .xor (.imm n)
  | .rst_28 => .rst .t28
  | .ldh_A_atN n => .loadA (.atHighN n)
  | .pop_AF => .pop .AF
  | .ldh_A_atC => .loadA .atHighC
  | .di => .di
  | .invalid_F4 => .invalid .xF4
  | .push_AF => .push .AF
  | .or_n n => .alu .or (.imm n)
  | .rst_30 => .rst .t30
  | .ld_HL_SPe e => .ldHLSPe e
  | .ld_SP_HL => .ldSPHL
  | .ld_A_atNn nn => .loadA (.atNn nn)
  | .ei => .ei
  | .invalid_FC => .invalid .xFC
  | .invalid_FD => .invalid .xFD
  | .cp_n n => .alu .cp (.imm n)
  | .rst_38 => .rst .t38
  | .rlc_B => .cb (.rot .rlc (.reg .B))
  | .rlc_C => .cb (.rot .rlc (.reg .C))
  | .rlc_D => .cb (.rot .rlc (.reg .D))
  | .rlc_E => .cb (.rot .rlc (.reg .E))
  | .rlc_H => .cb (.rot .rlc (.reg .H))
  | .rlc_L => .cb (.rot .rlc (.reg .L))
  | .rlc_atHL => .cb (.rot .rlc .atHL)
  | .rlc_A => .cb (.rot .rlc (.reg .A))
  | .rrc_B => .cb (.rot .rrc (.reg .B))
  | .rrc_C => .cb (.rot .rrc (.reg .C))
  | .rrc_D => .cb (.rot .rrc (.reg .D))
  | .rrc_E => .cb (.rot .rrc (.reg .E))
  | .rrc_H => .cb (.rot .rrc (.reg .H))
  | .rrc_L => .cb (.rot .rrc (.reg .L))
  | .rrc_atHL => .cb (.rot .rrc .atHL)
  | .rrc_A => .cb (.rot .rrc (.reg .A))
  | .rl_B => .cb (.rot .rl (.reg .B))
  | .rl_C => .cb (.rot .rl (.reg .C))
  | .rl_D => .cb (.rot .rl (.reg .D))
  | .rl_E => .cb (.rot .rl (.reg .E))
  | .rl_H => .cb (.rot .rl (.reg .H))
  | .rl_L => .cb (.rot .rl (.reg .L))
  | .rl_atHL => .cb (.rot .rl .atHL)
  | .rl_A => .cb (.rot .rl (.reg .A))
  | .rr_B => .cb (.rot .rr (.reg .B))
  | .rr_C => .cb (.rot .rr (.reg .C))
  | .rr_D => .cb (.rot .rr (.reg .D))
  | .rr_E => .cb (.rot .rr (.reg .E))
  | .rr_H => .cb (.rot .rr (.reg .H))
  | .rr_L => .cb (.rot .rr (.reg .L))
  | .rr_atHL => .cb (.rot .rr .atHL)
  | .rr_A => .cb (.rot .rr (.reg .A))
  | .sla_B => .cb (.rot .sla (.reg .B))
  | .sla_C => .cb (.rot .sla (.reg .C))
  | .sla_D => .cb (.rot .sla (.reg .D))
  | .sla_E => .cb (.rot .sla (.reg .E))
  | .sla_H => .cb (.rot .sla (.reg .H))
  | .sla_L => .cb (.rot .sla (.reg .L))
  | .sla_atHL => .cb (.rot .sla .atHL)
  | .sla_A => .cb (.rot .sla (.reg .A))
  | .sra_B => .cb (.rot .sra (.reg .B))
  | .sra_C => .cb (.rot .sra (.reg .C))
  | .sra_D => .cb (.rot .sra (.reg .D))
  | .sra_E => .cb (.rot .sra (.reg .E))
  | .sra_H => .cb (.rot .sra (.reg .H))
  | .sra_L => .cb (.rot .sra (.reg .L))
  | .sra_atHL => .cb (.rot .sra .atHL)
  | .sra_A => .cb (.rot .sra (.reg .A))
  | .swap_B => .cb (.rot .swap (.reg .B))
  | .swap_C => .cb (.rot .swap (.reg .C))
  | .swap_D => .cb (.rot .swap (.reg .D))
  | .swap_E => .cb (.rot .swap (.reg .E))
  | .swap_H => .cb (.rot .swap (.reg .H))
  | .swap_L => .cb (.rot .swap (.reg .L))
  | .swap_atHL => .cb (.rot .swap .atHL)
  | .swap_A => .cb (.rot .swap (.reg .A))
  | .srl_B => .cb (.rot .srl (.reg .B))
  | .srl_C => .cb (.rot .srl (.reg .C))
  | .srl_D => .cb (.rot .srl (.reg .D))
  | .srl_E => .cb (.rot .srl (.reg .E))
  | .srl_H => .cb (.rot .srl (.reg .H))
  | .srl_L => .cb (.rot .srl (.reg .L))
  | .srl_atHL => .cb (.rot .srl .atHL)
  | .srl_A => .cb (.rot .srl (.reg .A))
  | .bit_0_B => .cb (.bit .b0 (.reg .B))
  | .bit_0_C => .cb (.bit .b0 (.reg .C))
  | .bit_0_D => .cb (.bit .b0 (.reg .D))
  | .bit_0_E => .cb (.bit .b0 (.reg .E))
  | .bit_0_H => .cb (.bit .b0 (.reg .H))
  | .bit_0_L => .cb (.bit .b0 (.reg .L))
  | .bit_0_atHL => .cb (.bit .b0 .atHL)
  | .bit_0_A => .cb (.bit .b0 (.reg .A))
  | .bit_1_B => .cb (.bit .b1 (.reg .B))
  | .bit_1_C => .cb (.bit .b1 (.reg .C))
  | .bit_1_D => .cb (.bit .b1 (.reg .D))
  | .bit_1_E => .cb (.bit .b1 (.reg .E))
  | .bit_1_H => .cb (.bit .b1 (.reg .H))
  | .bit_1_L => .cb (.bit .b1 (.reg .L))
  | .bit_1_atHL => .cb (.bit .b1 .atHL)
  | .bit_1_A => .cb (.bit .b1 (.reg .A))
  | .bit_2_B => .cb (.bit .b2 (.reg .B))
  | .bit_2_C => .cb (.bit .b2 (.reg .C))
  | .bit_2_D => .cb (.bit .b2 (.reg .D))
  | .bit_2_E => .cb (.bit .b2 (.reg .E))
  | .bit_2_H => .cb (.bit .b2 (.reg .H))
  | .bit_2_L => .cb (.bit .b2 (.reg .L))
  | .bit_2_atHL => .cb (.bit .b2 .atHL)
  | .bit_2_A => .cb (.bit .b2 (.reg .A))
  | .bit_3_B => .cb (.bit .b3 (.reg .B))
  | .bit_3_C => .cb (.bit .b3 (.reg .C))
  | .bit_3_D => .cb (.bit .b3 (.reg .D))
  | .bit_3_E => .cb (.bit .b3 (.reg .E))
  | .bit_3_H => .cb (.bit .b3 (.reg .H))
  | .bit_3_L => .cb (.bit .b3 (.reg .L))
  | .bit_3_atHL => .cb (.bit .b3 .atHL)
  | .bit_3_A => .cb (.bit .b3 (.reg .A))
  | .bit_4_B => .cb (.bit .b4 (.reg .B))
  | .bit_4_C => .cb (.bit .b4 (.reg .C))
  | .bit_4_D => .cb (.bit .b4 (.reg .D))
  | .bit_4_E => .cb (.bit .b4 (.reg .E))
  | .bit_4_H => .cb (.bit .b4 (.reg .H))
  | .bit_4_L => .cb (.bit .b4 (.reg .L))
  | .bit_4_atHL => .cb (.bit .b4 .atHL)
  | .bit_4_A => .cb (.bit .b4 (.reg .A))
  | .bit_5_B => .cb (.bit .b5 (.reg .B))
  | .bit_5_C => .cb (.bit .b5 (.reg .C))
  | .bit_5_D => .cb (.bit .b5 (.reg .D))
  | .bit_5_E => .cb (.bit .b5 (.reg .E))
  | .bit_5_H => .cb (.bit .b5 (.reg .H))
  | .bit_5_L => .cb (.bit .b5 (.reg .L))
  | .bit_5_atHL => .cb (.bit .b5 .atHL)
  | .bit_5_A => .cb (.bit .b5 (.reg .A))
  | .bit_6_B => .cb (.bit .b6 (.reg .B))
  | .bit_6_C => .cb (.bit .b6 (.reg .C))
  | .bit_6_D => .cb (.bit .b6 (.reg .D))
  | .bit_6_E => .cb (.bit .b6 (.reg .E))
  | .bit_6_H => .cb (.bit .b6 (.reg .H))
  | .bit_6_L => .cb (.bit .b6 (.reg .L))
  | .bit_6_atHL => .cb (.bit .b6 .atHL)
  | .bit_6_A => .cb (.bit .b6 (.reg .A))
  | .bit_7_B => .cb (.bit .b7 (.reg .B))
  | .bit_7_C => .cb (.bit .b7 (.reg .C))
  | .bit_7_D => .cb (.bit .b7 (.reg .D))
  | .bit_7_E => .cb (.bit .b7 (.reg .E))
  | .bit_7_H => .cb (.bit .b7 (.reg .H))
  | .bit_7_L => .cb (.bit .b7 (.reg .L))
  | .bit_7_atHL => .cb (.bit .b7 .atHL)
  | .bit_7_A => .cb (.bit .b7 (.reg .A))
  | .res_0_B => .cb (.res .b0 (.reg .B))
  | .res_0_C => .cb (.res .b0 (.reg .C))
  | .res_0_D => .cb (.res .b0 (.reg .D))
  | .res_0_E => .cb (.res .b0 (.reg .E))
  | .res_0_H => .cb (.res .b0 (.reg .H))
  | .res_0_L => .cb (.res .b0 (.reg .L))
  | .res_0_atHL => .cb (.res .b0 .atHL)
  | .res_0_A => .cb (.res .b0 (.reg .A))
  | .res_1_B => .cb (.res .b1 (.reg .B))
  | .res_1_C => .cb (.res .b1 (.reg .C))
  | .res_1_D => .cb (.res .b1 (.reg .D))
  | .res_1_E => .cb (.res .b1 (.reg .E))
  | .res_1_H => .cb (.res .b1 (.reg .H))
  | .res_1_L => .cb (.res .b1 (.reg .L))
  | .res_1_atHL => .cb (.res .b1 .atHL)
  | .res_1_A => .cb (.res .b1 (.reg .A))
  | .res_2_B => .cb (.res .b2 (.reg .B))
  | .res_2_C => .cb (.res .b2 (.reg .C))
  | .res_2_D => .cb (.res .b2 (.reg .D))
  | .res_2_E => .cb (.res .b2 (.reg .E))
  | .res_2_H => .cb (.res .b2 (.reg .H))
  | .res_2_L => .cb (.res .b2 (.reg .L))
  | .res_2_atHL => .cb (.res .b2 .atHL)
  | .res_2_A => .cb (.res .b2 (.reg .A))
  | .res_3_B => .cb (.res .b3 (.reg .B))
  | .res_3_C => .cb (.res .b3 (.reg .C))
  | .res_3_D => .cb (.res .b3 (.reg .D))
  | .res_3_E => .cb (.res .b3 (.reg .E))
  | .res_3_H => .cb (.res .b3 (.reg .H))
  | .res_3_L => .cb (.res .b3 (.reg .L))
  | .res_3_atHL => .cb (.res .b3 .atHL)
  | .res_3_A => .cb (.res .b3 (.reg .A))
  | .res_4_B => .cb (.res .b4 (.reg .B))
  | .res_4_C => .cb (.res .b4 (.reg .C))
  | .res_4_D => .cb (.res .b4 (.reg .D))
  | .res_4_E => .cb (.res .b4 (.reg .E))
  | .res_4_H => .cb (.res .b4 (.reg .H))
  | .res_4_L => .cb (.res .b4 (.reg .L))
  | .res_4_atHL => .cb (.res .b4 .atHL)
  | .res_4_A => .cb (.res .b4 (.reg .A))
  | .res_5_B => .cb (.res .b5 (.reg .B))
  | .res_5_C => .cb (.res .b5 (.reg .C))
  | .res_5_D => .cb (.res .b5 (.reg .D))
  | .res_5_E => .cb (.res .b5 (.reg .E))
  | .res_5_H => .cb (.res .b5 (.reg .H))
  | .res_5_L => .cb (.res .b5 (.reg .L))
  | .res_5_atHL => .cb (.res .b5 .atHL)
  | .res_5_A => .cb (.res .b5 (.reg .A))
  | .res_6_B => .cb (.res .b6 (.reg .B))
  | .res_6_C => .cb (.res .b6 (.reg .C))
  | .res_6_D => .cb (.res .b6 (.reg .D))
  | .res_6_E => .cb (.res .b6 (.reg .E))
  | .res_6_H => .cb (.res .b6 (.reg .H))
  | .res_6_L => .cb (.res .b6 (.reg .L))
  | .res_6_atHL => .cb (.res .b6 .atHL)
  | .res_6_A => .cb (.res .b6 (.reg .A))
  | .res_7_B => .cb (.res .b7 (.reg .B))
  | .res_7_C => .cb (.res .b7 (.reg .C))
  | .res_7_D => .cb (.res .b7 (.reg .D))
  | .res_7_E => .cb (.res .b7 (.reg .E))
  | .res_7_H => .cb (.res .b7 (.reg .H))
  | .res_7_L => .cb (.res .b7 (.reg .L))
  | .res_7_atHL => .cb (.res .b7 .atHL)
  | .res_7_A => .cb (.res .b7 (.reg .A))
  | .set_0_B => .cb (.set .b0 (.reg .B))
  | .set_0_C => .cb (.set .b0 (.reg .C))
  | .set_0_D => .cb (.set .b0 (.reg .D))
  | .set_0_E => .cb (.set .b0 (.reg .E))
  | .set_0_H => .cb (.set .b0 (.reg .H))
  | .set_0_L => .cb (.set .b0 (.reg .L))
  | .set_0_atHL => .cb (.set .b0 .atHL)
  | .set_0_A => .cb (.set .b0 (.reg .A))
  | .set_1_B => .cb (.set .b1 (.reg .B))
  | .set_1_C => .cb (.set .b1 (.reg .C))
  | .set_1_D => .cb (.set .b1 (.reg .D))
  | .set_1_E => .cb (.set .b1 (.reg .E))
  | .set_1_H => .cb (.set .b1 (.reg .H))
  | .set_1_L => .cb (.set .b1 (.reg .L))
  | .set_1_atHL => .cb (.set .b1 .atHL)
  | .set_1_A => .cb (.set .b1 (.reg .A))
  | .set_2_B => .cb (.set .b2 (.reg .B))
  | .set_2_C => .cb (.set .b2 (.reg .C))
  | .set_2_D => .cb (.set .b2 (.reg .D))
  | .set_2_E => .cb (.set .b2 (.reg .E))
  | .set_2_H => .cb (.set .b2 (.reg .H))
  | .set_2_L => .cb (.set .b2 (.reg .L))
  | .set_2_atHL => .cb (.set .b2 .atHL)
  | .set_2_A => .cb (.set .b2 (.reg .A))
  | .set_3_B => .cb (.set .b3 (.reg .B))
  | .set_3_C => .cb (.set .b3 (.reg .C))
  | .set_3_D => .cb (.set .b3 (.reg .D))
  | .set_3_E => .cb (.set .b3 (.reg .E))
  | .set_3_H => .cb (.set .b3 (.reg .H))
  | .set_3_L => .cb (.set .b3 (.reg .L))
  | .set_3_atHL => .cb (.set .b3 .atHL)
  | .set_3_A => .cb (.set .b3 (.reg .A))
  | .set_4_B => .cb (.set .b4 (.reg .B))
  | .set_4_C => .cb (.set .b4 (.reg .C))
  | .set_4_D => .cb (.set .b4 (.reg .D))
  | .set_4_E => .cb (.set .b4 (.reg .E))
  | .set_4_H => .cb (.set .b4 (.reg .H))
  | .set_4_L => .cb (.set .b4 (.reg .L))
  | .set_4_atHL => .cb (.set .b4 .atHL)
  | .set_4_A => .cb (.set .b4 (.reg .A))
  | .set_5_B => .cb (.set .b5 (.reg .B))
  | .set_5_C => .cb (.set .b5 (.reg .C))
  | .set_5_D => .cb (.set .b5 (.reg .D))
  | .set_5_E => .cb (.set .b5 (.reg .E))
  | .set_5_H => .cb (.set .b5 (.reg .H))
  | .set_5_L => .cb (.set .b5 (.reg .L))
  | .set_5_atHL => .cb (.set .b5 .atHL)
  | .set_5_A => .cb (.set .b5 (.reg .A))
  | .set_6_B => .cb (.set .b6 (.reg .B))
  | .set_6_C => .cb (.set .b6 (.reg .C))
  | .set_6_D => .cb (.set .b6 (.reg .D))
  | .set_6_E => .cb (.set .b6 (.reg .E))
  | .set_6_H => .cb (.set .b6 (.reg .H))
  | .set_6_L => .cb (.set .b6 (.reg .L))
  | .set_6_atHL => .cb (.set .b6 .atHL)
  | .set_6_A => .cb (.set .b6 (.reg .A))
  | .set_7_B => .cb (.set .b7 (.reg .B))
  | .set_7_C => .cb (.set .b7 (.reg .C))
  | .set_7_D => .cb (.set .b7 (.reg .D))
  | .set_7_E => .cb (.set .b7 (.reg .E))
  | .set_7_H => .cb (.set .b7 (.reg .H))
  | .set_7_L => .cb (.set .b7 (.reg .L))
  | .set_7_atHL => .cb (.set .b7 .atHL)
  | .set_7_A => .cb (.set .b7 (.reg .A))

/-! ## Decoding -/

/-- The instruction that starts with the byte `b0` and goes on with `b1`, `b2`: total, since every value of each
opcode space has its row (R84). Bytes past the instruction's length do not matter. -/
def decode3 (b0 b1 b2 : Byte) : Instr := instrOf (decodeForm b0 b1 b2)

/-- First bytes of the three-byte instructions (R74). -/
def lengthThree : List Byte :=
  [0x01, 0x11, 0x21, 0x31, 0x08, 0xC2, 0xC3, 0xC4] ++ [0xCA, 0xCC, 0xCD, 0xD2, 0xD4, 0xDA, 0xDC, 0xEA, 0xFA]

/-- First bytes of the two-byte instructions of the plain space (R74). -/
def lengthTwo : List Byte :=
  [0x06, 0x0E, 0x16, 0x1E, 0x26, 0x2E, 0x36, 0x3E, 0x10, 0x18, 0x20, 0x28, 0x30, 0x38]
    ++ [0xC6, 0xCE, 0xD6, 0xDE, 0xE6, 0xEE, 0xF6, 0xFE, 0xE0, 0xF0, 0xE8, 0xF8]

/-- The length of an instruction, from its first byte alone (R74). -/
def lengthOf (b0 : Byte) : Nat :=
  bif b0 == Config.cbPrefixByte then 2
  else bif lengthThree.contains b0 then 3
  else bif lengthTwo.contains b0 then 2
  else 1

/-- The length with the parameter `INVALID_OPCODES`: an invalid opcode is one byte long (R82, R275). -/
def lengthWith (invalidOpcodes : List Byte) (b0 : Byte) : Nat :=
  bif b0 != Config.cbPrefixByte && invalidOpcodes.contains b0 then 1 else lengthOf b0

/-- Why a list of bytes holds no instruction: it ends too soon. No byte value is a reason (R84). -/
inductive DecodeError
  /-- There is no byte at all. -/
  | noByte
  /-- The instruction has more bytes than are left. -/
  | truncated (needed : Nat)
deriving DecidableEq, Repr

/-- Decode the instruction at the head of a list of bytes; answer it with the bytes after it. -/
def decode : List Byte → Except DecodeError (Instr × List Byte)
  | [] => .error .noByte
  | b0 :: rest =>
    bif rest.length + 1 < lengthOf b0 then .error (.truncated (lengthOf b0))
    else .ok (decode3 b0 (rest.getD 0 0) (rest.getD 1 0), rest.drop (lengthOf b0 - 1))

/-! ## Encoding, from the "Encoding" line of each rule -/

/-- Index of a register in column `r` of R75. -/
def regIndex : Reg8 → BitVec 3
  | .B => 0
  | .C => 1
  | .D => 2
  | .E => 3
  | .H => 4
  | .L => 5
  | .A => 7

/-- Index of an 8-bit operand in column `r` of R75. -/
def opnd8Index : Opnd8 → BitVec 3
  | .reg r => regIndex r
  | .atHL => 6

/-- Index in column `rp` of R75. -/
def pairIndex : Pair → BitVec 2
  | .BC => 0
  | .DE => 1
  | .HL => 2
  | .SP => 3

/-- Index in column `rp2` of R75. -/
def stackPairIndex : StackPair → BitVec 2
  | .BC => 0
  | .DE => 1
  | .HL => 2
  | .AF => 3

/-- Index in column `cc` of R75. -/
def condIndex : Cond → BitVec 2
  | .NZ => 0
  | .Z => 1
  | .NC => 2
  | .C => 3

/-- Index in column `alu` of R75. -/
def aluIndex : AluOp → BitVec 3
  | .add => 0
  | .adc => 1
  | .sub => 2
  | .sbc => 3
  | .and => 4
  | .xor => 5
  | .or => 6
  | .cp => 7

/-- Index in column `rot` of R75. -/
def rotIndex : RotOp → BitVec 3
  | .rlc => 0
  | .rrc => 1
  | .rl => 2
  | .rr => 3
  | .sla => 4
  | .sra => 5
  | .swap => 6
  | .srl => 7

/-- The bits of a bit number. -/
def bitNoIndex : BitNo → BitVec 3
  | .b0 => 0
  | .b1 => 1
  | .b2 => 2
  | .b3 => 3
  | .b4 => 4
  | .b5 => 5
  | .b6 => 6
  | .b7 => 7

/-- `y = t / 8` (R261). -/
def rstIndex : RstTarget → BitVec 3
  | .t00 => 0
  | .t08 => 1
  | .t10 => 2
  | .t18 => 3
  | .t20 => 4
  | .t28 => 5
  | .t30 => 6
  | .t38 => 7

/-- The byte of an invalid opcode (R82). -/
def invalidByte : InvalidOp → Byte
  | .xD3 => 0xD3
  | .xDB => 0xDB
  | .xDD => 0xDD
  | .xE3 => 0xE3
  | .xE4 => 0xE4
  | .xEB => 0xEB
  | .xEC => 0xEC
  | .xED => 0xED
  | .xF4 => 0xF4
  | .xFC => 0xFC
  | .xFD => 0xFD

/-- The byte `xx_yyy_zzz` (R71). -/
def opXYZ (x : BitVec 2) (y z : BitVec 3) : Byte := x ++ y ++ z

/-- The byte `xx_ppq_zzz` (R71). -/
def opXPQZ (x p : BitVec 2) (q : BitVec 1) (z : BitVec 3) : Byte := x ++ p ++ q ++ z

/-- The bytes of a load of `A` (R136, R137, R140, R142, R144, R146, R148). -/
def encodeLoadA : AccMode → List Byte
  | .atBC => [0x0A]
  | .atDE => [0x1A]
  | .atHLinc => [0x2A]
  | .atHLdec => [0x3A]
  | .atNn nn => [0xFA, lo nn, hi nn]
  | .atHighN n => [0xF0, n]
  | .atHighC => [0xF2]

/-- The bytes of a store of `A` (R138, R139, R141, R143, R145, R147, R149). -/
def encodeStoreA : AccMode → List Byte
  | .atBC => [0x02]
  | .atDE => [0x12]
  | .atHLinc => [0x22]
  | .atHLdec => [0x32]
  | .atNn nn => [0xEA, lo nn, hi nn]
  | .atHighN n => [0xE0, n]
  | .atHighC => [0xE2]

/-- The bytes of an accumulator operation (R175). -/
def encodeAlu (op : AluOp) : AluSrc → List Byte
  | .reg r => [opXYZ 0b10 (aluIndex op) (regIndex r)]
  | .atHL => [opXYZ 0b10 (aluIndex op) 6]
  | .imm n => [opXYZ 0b11 (aluIndex op) 6, n]

/-- The byte `cbop` (R81). -/
def encodeCb : CbForm → Byte
  | .rot op x => opXYZ 0b00 (rotIndex op) (opnd8Index x)
  | .bit b x => opXYZ 0b01 (bitNoIndex b) (opnd8Index x)
  | .res b x => opXYZ 0b10 (bitNoIndex b) (opnd8Index x)
  | .set b x => opXYZ 0b11 (bitNoIndex b) (opnd8Index x)

/-- The bytes of a form. DESIGN CHOICE (log 13, safe): the second byte of `STOP`, which has no effect whatever it is
(R272), is written `00` as assemblers do (R87). -/
def encodeForm : Form → List Byte
  | .nop => [0x00]
  | .halt => [0x76]
  | .stop => [0x10, 0x00]
  | .di => [0xF3]
  | .ei => [0xFB]
  | .invalid k => [invalidByte k]
  | .cbPrefix => [0xCB]
  | .ldRegReg d r => [opXYZ 0b01 (regIndex d) (regIndex r)]
  | .ldRegImm d n => [opXYZ 0b00 (regIndex d) 0b110, n]
  | .ldRegAtHL d => [opXYZ 0b01 (regIndex d) 0b110]
  | .ldAtHLReg r => [opXYZ 0b01 0b110 (regIndex r)]
  | .ldAtHLImm n => [0x36, n]
  | .loadA m => encodeLoadA m
  | .storeA m => encodeStoreA m
  | .ldPairImm p nn => [opXPQZ 0b00 (pairIndex p) 0 0b001, lo nn, hi nn]
  | .ldAtNnSP nn => [0x08, lo nn, hi nn]
  | .ldSPHL => [0xF9]
  | .push q => [opXPQZ 0b11 (stackPairIndex q) 0 0b101]
  | .pop q => [opXPQZ 0b11 (stackPairIndex q) 0 0b001]
  | .ldHLSPe e => [0xF8, e]
  | .alu op x => encodeAlu op x
  | .incReg r => [opXYZ 0b00 (regIndex r) 0b100]
  | .incAtHL => [0x34]
  | .decReg r => [opXYZ 0b00 (regIndex r) 0b101]
  | .decAtHL => [0x35]
  | .daa => [0x27]
  | .cpl => [0x2F]
  | .scf => [0x37]
  | .ccf => [0x3F]
  | .addHL p => [opXPQZ 0b00 (pairIndex p) 1 0b001]
  | .incPair p => [opXPQZ 0b00 (pairIndex p) 0 0b011]
  | .decPair p => [opXPQZ 0b00 (pairIndex p) 1 0b011]
  | .addSPe e => [0xE8, e]
  | .rlca => [0x07]
  | .rrca => [0x0F]
  | .rla => [0x17]
  | .rra => [0x1F]
  | .cb c => [0xCB, encodeCb c]
  | .jp nn => [0xC3, lo nn, hi nn]
  | .jpCond cc nn => [opXYZ 0b11 (0#1 ++ condIndex cc) 0b010, lo nn, hi nn]
  | .jpHL => [0xE9]
  | .jr e => [0x18, e]
  | .jrCond cc e => [opXYZ 0b00 (1#1 ++ condIndex cc) 0b000, e]
  | .call nn => [0xCD, lo nn, hi nn]
  | .callCond cc nn => [opXYZ 0b11 (0#1 ++ condIndex cc) 0b100, lo nn, hi nn]
  | .ret => [0xC9]
  | .retCond cc => [opXYZ 0b11 (0#1 ++ condIndex cc) 0b000]
  | .reti => [0xD9]
  | .rst t => [opXYZ 0b11 (rstIndex t) 0b111]

/-- The bytes of an instruction, at ascending addresses (R70). -/
def encode (i : Instr) : List Byte := encodeForm (formOf i)

/-! ## The host's table words -/

/-- The bytes of a table word of `nbits` bits, with zero bytes after them, three in all (no instruction is longer,
R70). The table numbers the 16-bit rows of the CB space with byte 0 as the MORE significant byte (R88), so a 16-bit
word whose upper byte is the prefix is laid out upper byte first; any other word has its first byte in bits 7:0.
DEDUCED (log 11, safe). -/
def tableBytes (nbits w : Nat) : List Byte :=
  bif nbits == 16 && w / 256 % 256 == 0xCB then [0xCB, BitVec.ofNat 8 w, 0]
  else
    let v := w % 2 ^ nbits
    [BitVec.ofNat 8 v, BitVec.ofNat 8 (v / 256), BitVec.ofNat 8 (v / 65536)]

/-- The instruction the decoder reads from a table word. -/
def decodeTableWord (nbits w : Nat) : Option Instr :=
  match decode (tableBytes nbits w) with
  | .ok (i, _) => some i
  | .error _ => none

end Sys2Proof
end

