-- ==== Sys2Proof/Machine/State.lean ====
section
/-! DEFINITION. The machine's state: the register file, the two mode latches, the fault latch (`10_state.md`), the memory
that CORE reaches through the memory contract (`20_memory.md`), the trace of M-cycles and the environment's schedule. -/

namespace Sys2Proof.Machine

/-- Memory: (address, byte) pairs, addresses strictly rising, none holding what an unlisted address reads as. -/
abbrev Memory := List Host.Cell

/-- What CORE does in one M-cycle: at most one bus access of one byte (R55, R107, R108). -/
inductive MCycle
  /-- A read at `a` that returned `v`. -/
  | read (a : Word) (v : Byte)
  /-- A write of `v` at `a`. -/
  | write (a : Word) (v : Byte)
  /-- An internal M-cycle, with no bus access. -/
  | internal
deriving DecidableEq, Repr

/-- The 16-bit registers, by the names of R20. -/
inductive Name16
  | AF | BC | DE | HL | SP | PC
deriving DecidableEq, Repr

/-- The 8-bit views, by the names of R21. -/
inductive Name8
  | A | F | B | C | D | E | H | L
deriving DecidableEq, Repr

/-- The flags, by the names of R23. -/
inductive FlagName
  | Z | N | H | C
deriving DecidableEq, Repr

/-- A write through an external accessor (R37). -/
inductive AccessorWrite
  | reg16 (r : Name16) (w : Word)
  | reg8 (r : Name8) (v : Byte)
  | flag (f : FlagName) (b : Bool)
  | ime (b : Bool)
  | halted (b : Bool)
deriving DecidableEq, Repr

/-- One entry of the environment's schedule: a turn given to CORE, or a transition of R325. -/
inductive EnvEvent
  /-- CORE's turn: one application of the whole-instruction function of R121. -/
  | core
  /-- `T_int`: the interrupt collaborator dispatches to the vector `v` (R307). -/
  | int (v : Word)
  /-- `T_wake`: the wake-up (R321). -/
  | wake
  /-- `T_mem`: another agent makes the location `a` read as `v` (R56(b), R57, R65). -/
  | mem (a : Word) (v : Byte)
  /-- `T_dbg`: a write through an accessor (R37). -/
  | dbg (w : AccessorWrite)
  /-- `T_reset` (R340). -/
  | reset
deriving DecidableEq, Repr

/-- The state between two instructions (the driver `Idle`, R32, R121). -/
structure State where
  /-- `A` in bits 15:8, `F` in bits 7:0 (R20, R21, R23). -/
  af : Word
  /-- `B` high, `C` low (R20, R21). -/
  bc : Word
  /-- `D` high, `E` low (R20, R21). -/
  de : Word
  /-- `H` high, `L` low (R20, R21). -/
  hl : Word
  /-- The stack pointer (R25). -/
  sp : Word
  /-- The program counter (R26). -/
  pc : Word
  /-- Interrupt-master-enable (R29). -/
  ime : Bool
  /-- The wait latch (R30). -/
  halted : Bool
  /-- The fault latch (R34). -/
  faulted : Bool
  /-- The opcode byte of the fault (R34); not meaningful while `faulted` is false (I9). -/
  faultOpcode : Byte
  /-- The memory behind the contract (R50, R51, R57). -/
  mem : Memory
  /-- The model's own: every M-cycle so far, newest first (R57, R107, R121). -/
  cycles : List MCycle
  /-- The model's own: the environment's schedule, next entry first (R325); empty means that CORE runs. -/
  env : List EnvEvent
deriving DecidableEq, Repr

/-- Why the machine stops with a fault. -/
inductive Fault
  /-- Raised by the per-cycle interface `cycleStep` (Driver.lean) alone, on a cycle number outside the instruction's
  range (R112, R302). `step` and the meanings never raise it. Safe: no successor state is defined. -/
  | protocolViolation
deriving DecidableEq, Repr

/-- Why a step has no meaning. -/
inductive Refusal
  /-- Raised by an arm of `exec` for an instruction that has no meaning yet. Safe. No arm raises it now. -/
  | notModelled (mnemonic : String)
  /-- Raised by an environment step that schedules a dispatch where R305 does not allow one (`IME = 0` or
  `faulted = 1`; I13: refuse). Safe: no such transition exists. -/
  | dispatchNotEnabled
  /-- Raised by an environment step that schedules a wake-up where R325 does not allow one (`halted = 0` or
  `faulted = 1`). Safe: no such transition exists. -/
  | wakeNotEnabled
  /-- Raised by the M-cycle driver (Driver.lean) alone, on a dispatch, a wake-up or an accessor write scheduled while an
  instruction is in flight (I12: refuse). Safe: no such transition exists. -/
  | driverExecuting
deriving DecidableEq, Repr

/-- The outcome of a step. -/
abbrev Result := Host.Outcome State Fault Refusal

/-- The state after a reset with the parameters `p` (R38, R340, R342). `RESET_AF` is masked as every write of `AF` is
(R24). Memory lists nothing (log 3), nothing has been traced and nothing is scheduled (log 7, log 8), `faultOpcode` is the
model's choice (log 5). -/
def State.resetWith (p : Config.Params) : State where
  af := p.resetAF &&& 0xFFF0
  bc := p.resetBC
  de := p.resetDE
  hl := p.resetHL
  sp := p.resetSP
  pc := p.resetPC
  ime := p.resetIME
  halted := p.resetHalted
  faulted := false
  faultOpcode := Config.resetFaultOpcode
  mem := []
  cycles := []
  env := []

/-- The state after reset, with the defaults of R4 (decision D2). -/
def State.reset : State := State.resetWith Config.params

end Sys2Proof.Machine
end

