-- ==== Sys2Proof/Machine/Flags.lean ====
section
/-! DEFINITION. The flags (R23) and every flag computation: the arithmetic helpers of R100 to R105, the logic operations,
`DAA` (R204), the rotates and shifts of R220. Pure functions: values in, result and flags out. -/

namespace Sys2Proof.Machine

/-- The four flags (R23). -/
structure Flags where
  z : Bool
  n : Bool
  h : Bool
  c : Bool
deriving DecidableEq, Repr

/-- `F` as a byte: `Z N H C` in bits 7 to 4, bits 3:0 zero (R23, R24). -/
def Flags.toByte (fl : Flags) : Byte :=
  (bif fl.z then 0x80 else 0) ||| (bif fl.n then 0x40 else 0) ||| (bif fl.h then 0x20 else 0)
    ||| (bif fl.c then 0x10 else 0)

/-- The flags in a byte (R23). -/
def Flags.ofByte (b : Byte) : Flags where
  z := b.getLsbD 7
  n := b.getLsbD 6
  h := b.getLsbD 5
  c := b.getLsbD 4

/-- `zext_16(b)` (R6). -/
def zext16 (b : Byte) : Word := mk16 0 b

/-- `sext_16(b)` (R6). -/
def sext16 (b : Byte) : Word := bif b.getLsbD 7 then 0xFF00 ||| zext16 b else zext16 b

/-- An 8-bit result with its half-carry and carry. -/
structure Sum8 where
  r : Byte
  h : Bool
  c : Bool
deriving DecidableEq, Repr

/-- A 16-bit result with its half-carry and carry. -/
structure Sum16 where
  r : Word
  h : Bool
  c : Bool
deriving DecidableEq, Repr

/-- `add8` (R100): carry out of bit 3, carry out of bit 7. -/
def add8 (a b : Byte) : Sum8 :=
  let r := a + b
  { r := r, h := (a ^^^ b ^^^ r) &&& 0x10 != 0, c := decide (a.toNat + b.toNat > 255) }

/-- `adc8` (R101): the carry test is on the untruncated sum (C1). -/
def adc8 (a b : Byte) (cin : Bool) : Sum8 :=
  let s := a.toNat + b.toNat + cin.toNat
  let r := BitVec.ofNat 8 s
  { r := r, h := (a ^^^ b ^^^ r) &&& 0x10 != 0, c := decide (s > 255) }

/-- `sub8` (R102): `h` and `c` are borrows. -/
def sub8 (a b : Byte) : Sum8 where
  r := a - b
  h := decide ((a &&& 0xF).toNat < (b &&& 0xF).toNat)
  c := decide (a.toNat < b.toNat)

/-- `sbc8` (R103): the incoming borrow is added to the subtrahend side of each comparison, as integers. -/
def sbc8 (a b : Byte) (cin : Bool) : Sum8 where
  r := a - b - BitVec.ofNat 8 cin.toNat
  h := decide ((a &&& 0xF).toNat < (b &&& 0xF).toNat + cin.toNat)
  c := decide (a.toNat < b.toNat + cin.toNat)

/-- `add16` (R104): carry out of bit 11, carry out of bit 15. -/
def add16 (a b : Word) : Sum16 where
  r := a + b
  h := decide ((a &&& 0x0FFF).toNat + (b &&& 0x0FFF).toNat > 0x0FFF)
  c := decide (a.toNat + b.toNat > 65535)

/-- `addsp` (R105): the carries are those of the low bytes, `e` taken as unsigned. -/
def addsp (sp : Word) (e : Byte) : Sum16 where
  r := sp + sext16 e
  h := decide ((sp &&& 0x000F).toNat + (e &&& 0x0F).toNat > 0x0F)
  c := decide ((sp &&& 0x00FF).toNat + e.toNat > 0xFF)

/-- A result byte and the four flags that go with it. -/
structure AluOut where
  r : Byte
  fl : Flags
deriving DecidableEq, Repr

/-- `Z=(r==0)`, the given `N`, `H=h C=c`. -/
def Sum8.out (s : Sum8) (n : Bool) : AluOut where
  r := s.r
  fl := { z := s.r == 0, n := n, h := s.h, c := s.c }

/-- `Z=(r==0) N=0`, the given `H`, `C=0` (R188 to R196). -/
def logicOut (r : Byte) (h : Bool) : AluOut where
  r := r
  fl := { z := r == 0, n := false, h := h, c := false }

/-- The eight accumulator operations on `A = a` and the right operand `v` (R175 to R199). For `CP` the result is
used only for `Z`. -/
def aluOut (op : AluOp) (a v : Byte) (cin : Bool) : AluOut :=
  match op with
  | .add => (add8 a v).out false
  | .adc => (adc8 a v cin).out false
  | .sub => (sub8 a v).out true
  | .sbc => (sbc8 a v cin).out true
  | .and => logicOut (a &&& v) true
  | .xor => logicOut (a ^^^ v) false
  | .or => logicOut (a ||| v) false
  | .cp => (sub8 a v).out true

/-- The result and flags of `INC` (R200, R201): `C` is kept, `H` is set when the low nibble was `0xF`. -/
def incOut (v : Byte) (fl : Flags) : AluOut where
  r := v + 1
  fl := { z := v + 1 == 0, n := false, h := v &&& 0x0F == 0x0F, c := fl.c }

/-- The result and flags of `DEC` (R202, R203): `C` is kept, `H` is set when the low nibble was `0x0`. -/
def decOut (v : Byte) (fl : Flags) : AluOut where
  r := v - 1
  fl := { z := v - 1 == 0, n := true, h := v &&& 0x0F == 0x00, c := fl.c }

/-- `DAA` (R204): all tests on the values before the instruction. -/
def daaOut (a : Byte) (fl : Flags) : AluOut :=
  let low : Bool := bif fl.n then fl.h else fl.h || decide ((a &&& 0x0F).toNat > 0x09)
  let high : Bool := bif fl.n then fl.c else fl.c || decide (a.toNat > 0x99)
  let adj : Byte := (bif low then 0x06 else 0) ||| (bif high then 0x60 else 0)
  let r := bif fl.n then a - adj else a + adj
  { r := r, fl := { z := r == 0, n := fl.n, h := false, c := high } }

/-- A rotated or shifted byte and the bit that left it. -/
structure Shifted where
  r : Byte
  cout : Bool
deriving DecidableEq, Repr

/-- A carry bit as a byte. -/
def bitByte (b : Bool) : Byte := bif b then 1 else 0

/-- The pure functions of R220. -/
def rotate (op : RotOp) (x : Byte) (cin : Bool) : Shifted :=
  match op with
  | .rlc => { r := (x <<< 1) ||| bitByte (x.getLsbD 7), cout := x.getLsbD 7 }
  | .rrc => { r := (x >>> 1) ||| (bitByte (x.getLsbD 0) <<< 7), cout := x.getLsbD 0 }
  | .rl => { r := (x <<< 1) ||| bitByte cin, cout := x.getLsbD 7 }
  | .rr => { r := (x >>> 1) ||| (bitByte cin <<< 7), cout := x.getLsbD 0 }
  | .sla => { r := x <<< 1, cout := x.getLsbD 7 }
  | .sra => { r := (x >>> 1) ||| (x &&& 0x80), cout := x.getLsbD 0 }
  | .swap => { r := (x <<< 4) ||| (x >>> 4), cout := false }
  | .srl => { r := x >>> 1, cout := x.getLsbD 0 }

/-- The result and flags of a CB-space rotate or shift: `Z=(r==0) N=0 H=0 C=c` (R225 to R240). -/
def rotOut (op : RotOp) (x : Byte) (cin : Bool) : AluOut :=
  let s := rotate op x cin
  { r := s.r, fl := { z := s.r == 0, n := false, h := false, c := s.cout } }

/-- The result and flags of an accumulator rotate: `Z=0 N=0 H=0 C=c` (R221 to R224). -/
def accRotOut (op : RotOp) (x : Byte) (cin : Bool) : AluOut :=
  let s := rotate op x cin
  { r := s.r, fl := { z := false, n := false, h := false, c := s.cout } }

/-- The flags of `BIT`: `Z=(t==0) N=0 H=1 C=-` (R241, R242). -/
def bitFlags (t : Bool) (fl : Flags) : Flags := { z := !t, n := false, h := true, c := fl.c }

/-- `cond(cc)` (R9). -/
def Flags.cond (fl : Flags) (cc : Cond) : Bool :=
  match cc with
  | .NZ => !fl.z
  | .Z => fl.z
  | .NC => !fl.c
  | .C => fl.c

end Sys2Proof.Machine
end

