-- ==== Sys2Proof/Machine/Ops.lean ====
section
/-! DEFINITION. The named operations over memory and registers: the memory contract (R8, R51), the register views
(R21, R22), `F` and its flags (R23, R24), fetch, push and pop (R9), the external accessors (R37), taking the fault
`UnsupportedOpcode` (R301), taking an interrupt (R306, R307) and returning from one (R260, R313). -/

namespace Sys2Proof.Machine

/-! ## Memory -/

/-- The byte listed at an address, if there is one. -/
def Memory.find : Memory → Nat → Option Byte
  | [], _ => none
  | c :: m, k => if c.1 = k then some c.2 else Memory.find m k

/-- `MemRead(a, 1)` (R8) on memory that behaves as RAM (R57; log 4). -/
def Memory.read (m : Memory) (a : Word) : Byte := (Memory.find m a.toNat).getD Config.unlistedByte

/-- The memory without the entries at an address. -/
def Memory.erase (m : Memory) (k : Nat) : Memory := m.filter fun c => c.1 != k

/-- The memory with one entry put before the first entry of a higher address. -/
def Memory.insert (k : Nat) (v : Byte) : Memory → Memory
  | [] => [(k, v)]
  | c :: m => if k < c.1 then (k, v) :: c :: m else c :: Memory.insert k v m

/-- `MemWrite(a, 1, v)` (R8), keeping the canonical form: the value an unlisted address reads as removes the entry. -/
def Memory.write (m : Memory) (a : Word) (v : Byte) : Memory :=
  if v = Config.unlistedByte then Memory.erase m a.toNat
  else Memory.insert a.toNat v (Memory.erase m a.toNat)

/-- The addresses rise strictly. -/
def Memory.rising : Memory → Bool
  | [] => true
  | [_] => true
  | c :: d :: m => decide (c.1 < d.1) && Memory.rising (d :: m)

/-- The canonical form: addresses strictly rising and below 65,536 (R50), no entry that an unlisted address reads as. -/
def Memory.wf (m : Memory) : Bool :=
  Memory.rising m && m.all fun c => decide (c.1 < 65536) && c.2 != Config.unlistedByte

/-! ## M-cycles, and the work of an instruction -/

/-- One M-cycle passes (R107). -/
def State.tick (s : State) (m : MCycle) : State := { s with cycles := m :: s.cycles }

/-- The work of an instruction that is still to do: its pseudocode cut at its M-cycles (R107, R108). Each node is one
M-cycle with at most one bus access; its state is the one in which that M-cycle begins, and what follows goes on with the
state in which it ends. -/
inductive Work
  /-- Retired: all effects are done. -/
  | done (s : State)
  /-- An M-cycle that reads the byte at `a`. -/
  | read (s : State) (a : Word) (k : Byte → State → Work)
  /-- An M-cycle that writes `v` at `a`. -/
  | write (s : State) (a : Word) (v : Byte) (k : State → Work)
  /-- An M-cycle without bus access. -/
  | internal (s : State) (k : State → Work)

/-- The state after the M-cycle that reads at `a`. -/
def State.afterRead (s : State) (a : Word) : State := s.tick (.read a (Memory.read s.mem a))

/-- The state after the M-cycle that writes `v` at `a`. -/
def State.afterWrite (s : State) (a : Word) (v : Byte) : State :=
  { s with mem := Memory.write s.mem a v }.tick (.write a v)

/-- The state after an internal M-cycle. -/
def State.afterInternal (s : State) : State := s.tick .internal

/-- Do the work to its end: the whole-instruction view (R121). -/
def Work.run : Work → State
  | .done s => s
  | .read s a k => Work.run (k (Memory.read s.mem a) (s.afterRead a))
  | .write s a v k => Work.run (k (s.afterWrite a v))
  | .internal s k => Work.run (k s.afterInternal)

/-- Do the work of one M-cycle. -/
def Work.perform : Work → Work
  | .done s => .done s
  | .read s a k => k (Memory.read s.mem a) (s.afterRead a)
  | .write s a v k => k (s.afterWrite a v)
  | .internal s k => k s.afterInternal

/-- The state in which the work stands. -/
def Work.state : Work → State
  | .done s => s
  | .read s _ _ => s
  | .write s _ _ _ => s
  | .internal s _ => s

/-- Change the state in which the work stands. -/
def Work.onState (f : State → State) : Work → Work
  | .done s => .done (f s)
  | .read s a k => .read (f s) a k
  | .write s a v k => .write (f s) a v k
  | .internal s k => .internal (f s) k

/-- Read the byte at `a` in one M-cycle and go on with it. -/
def State.reading (s : State) (a : Word) (k : Byte → State → Work) : Work := .read s a k

/-- Write the byte `v` at `a` in one M-cycle and go on. -/
def State.writing (s : State) (a : Word) (v : Byte) (k : State → Work) : Work := .write s a v k

/-- Go on after an internal M-cycle. -/
def State.idling (s : State) (k : State → Work) : Work := .internal s k

/-! ## `A`, `F` and the flags -/

/-- `F`; its low nibble is hardwired to zero and reads so (R24). -/
def State.f (s : State) : Byte := lo s.af &&& 0xF0

/-- Write `AF`: stores `w & 0xFFF0` (R24). -/
def State.setAF (s : State) (w : Word) : State := { s with af := w &&& 0xFFF0 }

/-- Read `AF`, the low nibble of `F` zero (R24). -/
def State.readAF (s : State) : Word := mk16 (hi s.af) s.f

/-- Write `F`: stores `v & 0xF0` (R24), `A` untouched (R22). -/
def State.setF (s : State) (v : Byte) : State := s.setAF (mk16 (hi s.af) v)

/-- The flags (R23). -/
def State.flags (s : State) : Flags := Flags.ofByte s.f

/-- Write the four flags. -/
def State.setFlags (s : State) (fl : Flags) : State := s.setF fl.toByte

/-! ## The 8-bit views (R21, R22) -/

/-- Read a register of column `r` of R75. -/
def State.r8 (s : State) (r : Reg8) : Byte :=
  match r with
  | .B => hi s.bc
  | .C => lo s.bc
  | .D => hi s.de
  | .E => lo s.de
  | .H => hi s.hl
  | .L => lo s.hl
  | .A => hi s.af

/-- Write a register of column `r` of R75: only its byte of the owning pair changes (R22). -/
def State.setR8 (s : State) (r : Reg8) (v : Byte) : State :=
  match r with
  | .B => { s with bc := mk16 v (lo s.bc) }
  | .C => { s with bc := mk16 (hi s.bc) v }
  | .D => { s with de := mk16 v (lo s.de) }
  | .E => { s with de := mk16 (hi s.de) v }
  | .H => { s with hl := mk16 v (lo s.hl) }
  | .L => { s with hl := mk16 (hi s.hl) v }
  | .A => s.setAF (mk16 v s.f)

/-! ## The 16-bit registers -/

/-- Read a pair of column `rp` of R75. -/
def State.pair (s : State) (p : Pair) : Word :=
  match p with
  | .BC => s.bc
  | .DE => s.de
  | .HL => s.hl
  | .SP => s.sp

/-- Write a pair of column `rp` of R75. -/
def State.setPair (s : State) (p : Pair) (w : Word) : State :=
  match p with
  | .BC => { s with bc := w }
  | .DE => { s with de := w }
  | .HL => { s with hl := w }
  | .SP => { s with sp := w }

/-- Read a pair of column `rp2` of R75. -/
def State.stackPair (s : State) (q : StackPair) : Word :=
  match q with
  | .BC => s.bc
  | .DE => s.de
  | .HL => s.hl
  | .AF => s.readAF

/-- Write a pair of column `rp2` of R75; a write of `AF` is masked (R24). -/
def State.setStackPair (s : State) (q : StackPair) (w : Word) : State :=
  match q with
  | .BC => { s with bc := w }
  | .DE => { s with de := w }
  | .HL => { s with hl := w }
  | .AF => s.setAF w

/-- Write `HL`. -/
def State.setHL (s : State) (w : Word) : State := { s with hl := w }

/-- Write `SP`. -/
def State.setSP (s : State) (w : Word) : State := { s with sp := w }

/-- Write `PC` (R10, R28). -/
def State.setPC (s : State) (w : Word) : State := { s with pc := w }

/-! ## The latches (R29, R30) -/

/-- Write `IME`. -/
def State.setIME (s : State) (b : Bool) : State := { s with ime := b }

/-- Write `halted`. -/
def State.setHalted (s : State) (b : Bool) : State := { s with halted := b }

/-! ## Fetch, push and pop (R9) -/

/-- `Fetch8` (R9): read the byte at `PC`, advance `PC` by one, go on with the byte. -/
def State.fetching (s : State) (k : Byte → State → Work) : Work :=
  s.reading s.pc fun v s => k v (s.setPC (s.pc + 1))

/-- The state after `n` times `Fetch8`. -/
def State.fetched (s : State) : Nat → State
  | 0 => s
  | n + 1 => State.fetched ((s.afterRead s.pc).setPC (s.pc + 1)) n

/-- `Push16(v)` (R9): `SP` is decremented before each write, the high byte is written first. -/
def State.push16 (s : State) (v : Word) (k : State → Work) : Work :=
  (s.setSP (s.sp - 1)).writing (s.sp - 1) (hi v) fun s =>
    (s.setSP (s.sp - 1)).writing (s.sp - 1) (lo v) k

/-- `Pop16()` (R9): the low byte is read first; go on with the word. -/
def State.popping (s : State) (k : Word → State → Work) : Work :=
  s.reading s.sp fun l s =>
    (s.setSP (s.sp + 1)).reading (s.sp + 1) fun h s =>
      k (mk16 h l) (s.setSP (s.sp + 1))

/-! ## Taking an exception, and returning -/

/-- `raise UnsupportedOpcode(b)` (R301): `faulted <- 1; fault_opcode <- b`; nothing else changes. -/
def State.raiseUnsupportedOpcode (s : State) (b : Byte) : State := { s with faulted := true, faultOpcode := b }

/-- `ServiceEntry(v)`, the interrupt-service entry primitive (R306): `Push16(PC); PC <- v`. -/
def State.serviceEntry (s : State) (v : Word) (k : State → Work) : Work :=
  s.push16 s.pc fun s => k (s.setPC v)

/-- The precondition of `Dispatch` (R305, R307): `IME = 1` and `faulted = 0` (the driver is `Idle`). -/
def State.dispatchEnabled (s : State) : Bool := s.ime && !s.faulted

/-- The effect of `Dispatch(v)` (R307): `IME <- 0; halted <- 0; ServiceEntry(v)`. Of its five M-cycles the third and the
fourth are the two writes. -/
def State.dispatch (s : State) (v : Word) : Work :=
  ((s.setIME false).setHalted false).idling fun s =>
    s.idling fun s =>
      s.serviceEntry v fun s =>
        s.idling fun s => .done s

/-- Return from a handler (R260, R313): `PC <- Pop16(); IME <- 1`, in an internal last M-cycle. -/
def State.returnFromInterrupt (s : State) : Work :=
  s.popping fun v s => s.idling fun s => .done ((s.setPC v).setIME true)

/-- The precondition of the wake-up (R325). -/
def State.wakeEnabled (s : State) : Bool := s.halted && !s.faulted

/-- The effect of the wake-up (R321): `halted <- 0`. -/
def State.wake (s : State) : State := s.setHalted false

/-- Reset with the parameters `p` (R340): every register and latch takes its reset value; a fault and a wait are
discarded. Memory is not CORE's (R342) and no bus access is made; what has been traced and what is still scheduled stay. -/
def State.resetCoreWith (p : Config.Params) (s : State) : State :=
  { State.resetWith p with mem := s.mem, cycles := s.cycles, env := s.env }

/-- Reset with the defaults of R4. -/
def State.resetCore (s : State) : State := s.resetCoreWith Config.params

/-- Another agent makes the location `a` read as `v` (R325 `T_mem`); no M-cycle of CORE is spent. -/
def State.agentWrite (s : State) (a : Word) (v : Byte) : State := { s with mem := Memory.write s.mem a v }

/-! ## The external accessors (R37) -/

/-- Read a 16-bit register. -/
def State.access16 (s : State) (r : Name16) : Word :=
  match r with
  | .AF => s.readAF
  | .BC => s.bc
  | .DE => s.de
  | .HL => s.hl
  | .SP => s.sp
  | .PC => s.pc

/-- Read an 8-bit view. -/
def State.access8 (s : State) (r : Name8) : Byte :=
  match r with
  | .A => s.r8 .A
  | .F => s.f
  | .B => s.r8 .B
  | .C => s.r8 .C
  | .D => s.r8 .D
  | .E => s.r8 .E
  | .H => s.r8 .H
  | .L => s.r8 .L

/-- Read a flag. -/
def State.accessFlag (s : State) (f : FlagName) : Bool :=
  match f with
  | .Z => s.flags.z
  | .N => s.flags.n
  | .H => s.flags.h
  | .C => s.flags.c

/-- The flags with one of them replaced. -/
def Flags.put (fl : Flags) (f : FlagName) (b : Bool) : Flags :=
  match f with
  | .Z => { fl with z := b }
  | .N => { fl with n := b }
  | .H => { fl with h := b }
  | .C => { fl with c := b }

/-- Write a 16-bit register; `AF` is masked (R24). -/
def State.write16 (s : State) (r : Name16) (w : Word) : State :=
  match r with
  | .AF => s.setAF w
  | .BC => { s with bc := w }
  | .DE => { s with de := w }
  | .HL => s.setHL w
  | .SP => s.setSP w
  | .PC => s.setPC w

/-- Write an 8-bit view: only its byte changes (R22); `F` is masked (R24). -/
def State.write8 (s : State) (r : Name8) (v : Byte) : State :=
  match r with
  | .A => s.setR8 .A v
  | .F => s.setF v
  | .B => s.setR8 .B v
  | .C => s.setR8 .C v
  | .D => s.setR8 .D v
  | .E => s.setR8 .E v
  | .H => s.setR8 .H v
  | .L => s.setR8 .L v

/-- Write through an accessor (R37). -/
def State.accessorWrite (s : State) (w : AccessorWrite) : State :=
  match w with
  | .reg16 r v => s.write16 r v
  | .reg8 r v => s.write8 r v
  | .flag f b => s.setFlags (s.flags.put f b)
  | .ime b => s.setIME b
  | .halted b => s.setHalted b

end Sys2Proof.Machine
end

