-- ==== Sys2Proof/Machine/Operands.lean ====
section
/-! DEFINITION. The operand forms: the 8-bit operand of column `r` of R75 (a register or the byte at `HL`), the right
operand of an accumulator operation (R175), the addressing modes of the accumulator loads and stores (R150), bit numbers
and restart targets (R72). -/

namespace Sys2Proof.Machine

/-- The right operand of an accumulator operation (R175); a memory operand is read in one M-cycle, an immediate has been
fetched with the instruction. -/
def State.withAluSrc (s : State) (x : AluSrc) (k : Byte → State → Work) : Work :=
  match x with
  | .reg r => k (s.r8 r) s
  | .atHL => s.reading s.hl k
  | .imm n => k n s

/-- Read an 8-bit operand. -/
def State.withOpnd8 (s : State) (x : Opnd8) (k : Byte → State → Work) : Work :=
  match x with
  | .reg r => k (s.r8 r) s
  | .atHL => s.reading s.hl k

/-- Write an 8-bit operand and go on. -/
def State.putOpnd8 (s : State) (x : Opnd8) (v : Byte) (k : State → Work) : Work :=
  match x with
  | .reg r => k (s.setR8 r v)
  | .atHL => s.writing s.hl v k

/-- The effective address of an accumulator load or store (R150): the value of `HL` before it is modified. -/
def State.accAddr (s : State) (m : AccMode) : Word :=
  match m with
  | .atBC => s.bc
  | .atDE => s.de
  | .atHLinc => s.hl
  | .atHLdec => s.hl
  | .atNn nn => nn
  | .atHighN n => 0xFF00 + zext16 n
  | .atHighC => 0xFF00 + zext16 (s.r8 .C)

/-- What the addressing mode does to `HL` after the access (R146 to R149). -/
def State.accUpdate (s : State) (m : AccMode) : State :=
  match m with
  | .atHLinc => s.setHL (s.hl + 1)
  | .atHLdec => s.setHL (s.hl - 1)
  | .atBC => s
  | .atDE => s
  | .atNn _ => s
  | .atHighN _ => s
  | .atHighC => s

/-- The number of a bit (R72). -/
def bitNat : BitNo → Nat
  | .b0 => 0
  | .b1 => 1
  | .b2 => 2
  | .b3 => 3
  | .b4 => 4
  | .b5 => 5
  | .b6 => 6
  | .b7 => 7

/-- `1 << b` (R243, R245). -/
def bitMask (b : BitNo) : Byte := 1 <<< bitNat b

/-- The restart target `t`, zero-extended (R72, R261). -/
def rstAddr : RstTarget → Word
  | .t00 => 0x0000
  | .t08 => 0x0008
  | .t10 => 0x0010
  | .t18 => 0x0018
  | .t20 => 0x0020
  | .t28 => 0x0028
  | .t30 => 0x0030
  | .t38 => 0x0038

end Sys2Proof.Machine
end

