-- ==== Sys2Proof/Machine/Alu16.lean ====
section
/-! DEFINITION. 16-bit arithmetic (`44_alu16.md`, R210 to R214). -/

namespace Sys2Proof.Machine

/-- `ADD HL,rr` (R211): `Z=- N=0 H=h C=c`. -/
def addHL (p : Pair) (s : State) : Work :=
  s.idling fun s =>
    let a := add16 s.hl (s.pair p)
    .done ((s.setHL a.r).setFlags { z := s.flags.z, n := false, h := a.h, c := a.c })

/-- `INC rr` (R212): no flag. -/
def incPair (p : Pair) (s : State) : Work := s.idling fun s => .done (s.setPair p (s.pair p + 1))

/-- `DEC rr` (R213): no flag. -/
def decPair (p : Pair) (s : State) : Work := s.idling fun s => .done (s.setPair p (s.pair p - 1))

/-- `ADD SP,e` (R214): `Z=0 N=0 H=h C=c`, two internal M-cycles. -/
def addSPe (e : Byte) (s : State) : Work :=
  s.idling fun s =>
    s.idling fun s =>
      let a := addsp s.sp e
      .done ((s.setSP a.r).setFlags { z := false, n := false, h := a.h, c := a.c })

/-! ## One meaning per row of the opcode table -/

/-- `INC BC` (R212). -/
def execInc_BC (s : State) : Result := .next (incPair .BC s).run

/-- `ADD HL,BC` (R211). -/
def execAdd_HL_BC (s : State) : Result := .next (addHL .BC s).run

/-- `DEC BC` (R213). -/
def execDec_BC (s : State) : Result := .next (decPair .BC s).run

/-- `INC DE` (R212). -/
def execInc_DE (s : State) : Result := .next (incPair .DE s).run

/-- `ADD HL,DE` (R211). -/
def execAdd_HL_DE (s : State) : Result := .next (addHL .DE s).run

/-- `DEC DE` (R213). -/
def execDec_DE (s : State) : Result := .next (decPair .DE s).run

/-- `INC HL` (R212). -/
def execInc_HL (s : State) : Result := .next (incPair .HL s).run

/-- `ADD HL,HL` (R211). -/
def execAdd_HL_HL (s : State) : Result := .next (addHL .HL s).run

/-- `DEC HL` (R213). -/
def execDec_HL (s : State) : Result := .next (decPair .HL s).run

/-- `INC SP` (R212). -/
def execInc_SP (s : State) : Result := .next (incPair .SP s).run

/-- `ADD HL,SP` (R211). -/
def execAdd_HL_SP (s : State) : Result := .next (addHL .SP s).run

/-- `DEC SP` (R213). -/
def execDec_SP (s : State) : Result := .next (decPair .SP s).run

/-- `ADD SP,e` (R214). -/
def execAdd_SP_e (e : Byte) (s : State) : Result := .next (addSPe e s).run

end Sys2Proof.Machine
end

