-- ==== Sys2Proof/Machine/Alu8.lean ====
section
/-! DEFINITION. 8-bit arithmetic and logic (`43_alu8.md`, R175 to R207). -/

namespace Sys2Proof.Machine

/-- The eight accumulator operations (R175 to R199): all write the four flags, all but `CP` write the result to `A`. -/
def alu (op : AluOp) (x : AluSrc) (s : State) : Work :=
  s.withAluSrc x fun v s =>
    let o := aluOut op (s.r8 .A) v s.flags.c
    match op with
    | .cp => .done (s.setFlags o.fl)
    | _ => .done ((s.setR8 .A o.r).setFlags o.fl)

/-- `INC r` (R200). -/
def incReg (r : Reg8) (s : State) : Work :=
  let o := incOut (s.r8 r) s.flags
  .done ((s.setR8 r o.r).setFlags o.fl)

/-- `INC (HL)` (R201): reads, then writes the same address. -/
def incAtHL (s : State) : Work :=
  s.reading s.hl fun v s =>
    let o := incOut v s.flags
    s.writing s.hl o.r fun s => .done (s.setFlags o.fl)

/-- `DEC r` (R202). -/
def decReg (r : Reg8) (s : State) : Work :=
  let o := decOut (s.r8 r) s.flags
  .done ((s.setR8 r o.r).setFlags o.fl)

/-- `DEC (HL)` (R203): reads, then writes the same address. -/
def decAtHL (s : State) : Work :=
  s.reading s.hl fun v s =>
    let o := decOut v s.flags
    s.writing s.hl o.r fun s => .done (s.setFlags o.fl)

/-- `DAA` (R204). -/
def daa (s : State) : Work :=
  let o := daaOut (s.r8 .A) s.flags
  .done ((s.setR8 .A o.r).setFlags o.fl)

/-- `CPL` (R205): `Z=- N=1 H=1 C=-`. -/
def cpl (s : State) : Work :=
  .done ((s.setR8 .A (s.r8 .A ^^^ 0xFF)).setFlags { z := s.flags.z, n := true, h := true, c := s.flags.c })

/-- `SCF` (R206): `Z=- N=0 H=0 C=1`. -/
def scf (s : State) : Work := .done (s.setFlags { z := s.flags.z, n := false, h := false, c := true })

/-- `CCF` (R207): `Z=- N=0 H=0 C=(1 - Cin)`. -/
def ccf (s : State) : Work := .done (s.setFlags { z := s.flags.z, n := false, h := false, c := !s.flags.c })

/-! ## One meaning per row of the opcode table -/

/-- `INC B` (R200). -/
def execInc_B (s : State) : Result := .next (incReg .B s).run

/-- `DEC B` (R202). -/
def execDec_B (s : State) : Result := .next (decReg .B s).run

/-- `INC C` (R200). -/
def execInc_C (s : State) : Result := .next (incReg .C s).run

/-- `DEC C` (R202). -/
def execDec_C (s : State) : Result := .next (decReg .C s).run

/-- `INC D` (R200). -/
def execInc_D (s : State) : Result := .next (incReg .D s).run

/-- `DEC D` (R202). -/
def execDec_D (s : State) : Result := .next (decReg .D s).run

/-- `INC E` (R200). -/
def execInc_E (s : State) : Result := .next (incReg .E s).run

/-- `DEC E` (R202). -/
def execDec_E (s : State) : Result := .next (decReg .E s).run

/-- `INC H` (R200). -/
def execInc_H (s : State) : Result := .next (incReg .H s).run

/-- `DEC H` (R202). -/
def execDec_H (s : State) : Result := .next (decReg .H s).run

/-- `DAA` (R204). -/
def execDaa (s : State) : Result := .next (daa s).run

/-- `INC L` (R200). -/
def execInc_L (s : State) : Result := .next (incReg .L s).run

/-- `DEC L` (R202). -/
def execDec_L (s : State) : Result := .next (decReg .L s).run

/-- `CPL` (R205). -/
def execCpl (s : State) : Result := .next (cpl s).run

/-- `INC (HL)` (R201). -/
def execInc_atHL (s : State) : Result := .next (incAtHL s).run

/-- `DEC (HL)` (R203). -/
def execDec_atHL (s : State) : Result := .next (decAtHL s).run

/-- `SCF` (R206). -/
def execScf (s : State) : Result := .next (scf s).run

/-- `INC A` (R200). -/
def execInc_A (s : State) : Result := .next (incReg .A s).run

/-- `DEC A` (R202). -/
def execDec_A (s : State) : Result := .next (decReg .A s).run

/-- `CCF` (R207). -/
def execCcf (s : State) : Result := .next (ccf s).run

/-- `ADD A,B` (R176). -/
def execAdd_A_B (s : State) : Result := .next (alu .add (.reg .B) s).run

/-- `ADD A,C` (R176). -/
def execAdd_A_C (s : State) : Result := .next (alu .add (.reg .C) s).run

/-- `ADD A,D` (R176). -/
def execAdd_A_D (s : State) : Result := .next (alu .add (.reg .D) s).run

/-- `ADD A,E` (R176). -/
def execAdd_A_E (s : State) : Result := .next (alu .add (.reg .E) s).run

/-- `ADD A,H` (R176). -/
def execAdd_A_H (s : State) : Result := .next (alu .add (.reg .H) s).run

/-- `ADD A,L` (R176). -/
def execAdd_A_L (s : State) : Result := .next (alu .add (.reg .L) s).run

/-- `ADD A,(HL)` (R177). -/
def execAdd_A_atHL (s : State) : Result := .next (alu .add .atHL s).run

/-- `ADD A,A` (R176). -/
def execAdd_A_A (s : State) : Result := .next (alu .add (.reg .A) s).run

/-- `ADC A,B` (R179). -/
def execAdc_A_B (s : State) : Result := .next (alu .adc (.reg .B) s).run

/-- `ADC A,C` (R179). -/
def execAdc_A_C (s : State) : Result := .next (alu .adc (.reg .C) s).run

/-- `ADC A,D` (R179). -/
def execAdc_A_D (s : State) : Result := .next (alu .adc (.reg .D) s).run

/-- `ADC A,E` (R179). -/
def execAdc_A_E (s : State) : Result := .next (alu .adc (.reg .E) s).run

/-- `ADC A,H` (R179). -/
def execAdc_A_H (s : State) : Result := .next (alu .adc (.reg .H) s).run

/-- `ADC A,L` (R179). -/
def execAdc_A_L (s : State) : Result := .next (alu .adc (.reg .L) s).run

/-- `ADC A,(HL)` (R180). -/
def execAdc_A_atHL (s : State) : Result := .next (alu .adc .atHL s).run

/-- `ADC A,A` (R179). -/
def execAdc_A_A (s : State) : Result := .next (alu .adc (.reg .A) s).run

/-- `SUB B` (R182). -/
def execSub_B (s : State) : Result := .next (alu .sub (.reg .B) s).run

/-- `SUB C` (R182). -/
def execSub_C (s : State) : Result := .next (alu .sub (.reg .C) s).run

/-- `SUB D` (R182). -/
def execSub_D (s : State) : Result := .next (alu .sub (.reg .D) s).run

/-- `SUB E` (R182). -/
def execSub_E (s : State) : Result := .next (alu .sub (.reg .E) s).run

/-- `SUB H` (R182). -/
def execSub_H (s : State) : Result := .next (alu .sub (.reg .H) s).run

/-- `SUB L` (R182). -/
def execSub_L (s : State) : Result := .next (alu .sub (.reg .L) s).run

/-- `SUB (HL)` (R183). -/
def execSub_atHL (s : State) : Result := .next (alu .sub .atHL s).run

/-- `SUB A` (R182). -/
def execSub_A (s : State) : Result := .next (alu .sub (.reg .A) s).run

/-- `SBC A,B` (R185). -/
def execSbc_A_B (s : State) : Result := .next (alu .sbc (.reg .B) s).run

/-- `SBC A,C` (R185). -/
def execSbc_A_C (s : State) : Result := .next (alu .sbc (.reg .C) s).run

/-- `SBC A,D` (R185). -/
def execSbc_A_D (s : State) : Result := .next (alu .sbc (.reg .D) s).run

/-- `SBC A,E` (R185). -/
def execSbc_A_E (s : State) : Result := .next (alu .sbc (.reg .E) s).run

/-- `SBC A,H` (R185). -/
def execSbc_A_H (s : State) : Result := .next (alu .sbc (.reg .H) s).run

/-- `SBC A,L` (R185). -/
def execSbc_A_L (s : State) : Result := .next (alu .sbc (.reg .L) s).run

/-- `SBC A,(HL)` (R186). -/
def execSbc_A_atHL (s : State) : Result := .next (alu .sbc .atHL s).run

/-- `SBC A,A` (R185). -/
def execSbc_A_A (s : State) : Result := .next (alu .sbc (.reg .A) s).run

/-- `AND B` (R188). -/
def execAnd_B (s : State) : Result := .next (alu .and (.reg .B) s).run

/-- `AND C` (R188). -/
def execAnd_C (s : State) : Result := .next (alu .and (.reg .C) s).run

/-- `AND D` (R188). -/
def execAnd_D (s : State) : Result := .next (alu .and (.reg .D) s).run

/-- `AND E` (R188). -/
def execAnd_E (s : State) : Result := .next (alu .and (.reg .E) s).run

/-- `AND H` (R188). -/
def execAnd_H (s : State) : Result := .next (alu .and (.reg .H) s).run

/-- `AND L` (R188). -/
def execAnd_L (s : State) : Result := .next (alu .and (.reg .L) s).run

/-- `AND (HL)` (R189). -/
def execAnd_atHL (s : State) : Result := .next (alu .and .atHL s).run

/-- `AND A` (R188). -/
def execAnd_A (s : State) : Result := .next (alu .and (.reg .A) s).run

/-- `XOR B` (R191). -/
def execXor_B (s : State) : Result := .next (alu .xor (.reg .B) s).run

/-- `XOR C` (R191). -/
def execXor_C (s : State) : Result := .next (alu .xor (.reg .C) s).run

/-- `XOR D` (R191). -/
def execXor_D (s : State) : Result := .next (alu .xor (.reg .D) s).run

/-- `XOR E` (R191). -/
def execXor_E (s : State) : Result := .next (alu .xor (.reg .E) s).run

/-- `XOR H` (R191). -/
def execXor_H (s : State) : Result := .next (alu .xor (.reg .H) s).run

/-- `XOR L` (R191). -/
def execXor_L (s : State) : Result := .next (alu .xor (.reg .L) s).run

/-- `XOR (HL)` (R192). -/
def execXor_atHL (s : State) : Result := .next (alu .xor .atHL s).run

/-- `XOR A` (R191). -/
def execXor_A (s : State) : Result := .next (alu .xor (.reg .A) s).run

/-- `OR B` (R194). -/
def execOr_B (s : State) : Result := .next (alu .or (.reg .B) s).run

/-- `OR C` (R194). -/
def execOr_C (s : State) : Result := .next (alu .or (.reg .C) s).run

/-- `OR D` (R194). -/
def execOr_D (s : State) : Result := .next (alu .or (.reg .D) s).run

/-- `OR E` (R194). -/
def execOr_E (s : State) : Result := .next (alu .or (.reg .E) s).run

/-- `OR H` (R194). -/
def execOr_H (s : State) : Result := .next (alu .or (.reg .H) s).run

/-- `OR L` (R194). -/
def execOr_L (s : State) : Result := .next (alu .or (.reg .L) s).run

/-- `OR (HL)` (R195). -/
def execOr_atHL (s : State) : Result := .next (alu .or .atHL s).run

/-- `OR A` (R194). -/
def execOr_A (s : State) : Result := .next (alu .or (.reg .A) s).run

/-- `CP B` (R197). -/
def execCp_B (s : State) : Result := .next (alu .cp (.reg .B) s).run

/-- `CP C` (R197). -/
def execCp_C (s : State) : Result := .next (alu .cp (.reg .C) s).run

/-- `CP D` (R197). -/
def execCp_D (s : State) : Result := .next (alu .cp (.reg .D) s).run

/-- `CP E` (R197). -/
def execCp_E (s : State) : Result := .next (alu .cp (.reg .E) s).run

/-- `CP H` (R197). -/
def execCp_H (s : State) : Result := .next (alu .cp (.reg .H) s).run

/-- `CP L` (R197). -/
def execCp_L (s : State) : Result := .next (alu .cp (.reg .L) s).run

/-- `CP (HL)` (R198). -/
def execCp_atHL (s : State) : Result := .next (alu .cp .atHL s).run

/-- `CP A` (R197). -/
def execCp_A (s : State) : Result := .next (alu .cp (.reg .A) s).run

/-- `ADD A,n` (R178). -/
def execAdd_A_n (n : Byte) (s : State) : Result := .next (alu .add (.imm n) s).run

/-- `ADC A,n` (R181). -/
def execAdc_A_n (n : Byte) (s : State) : Result := .next (alu .adc (.imm n) s).run

/-- `SUB n` (R184). -/
def execSub_n (n : Byte) (s : State) : Result := .next (alu .sub (.imm n) s).run

/-- `SBC A,n` (R187). -/
def execSbc_A_n (n : Byte) (s : State) : Result := .next (alu .sbc (.imm n) s).run

/-- `AND n` (R190). -/
def execAnd_n (n : Byte) (s : State) : Result := .next (alu .and (.imm n) s).run

/-- `XOR n` (R193). -/
def execXor_n (n : Byte) (s : State) : Result := .next (alu .xor (.imm n) s).run

/-- `OR n` (R196). -/
def execOr_n (n : Byte) (s : State) : Result := .next (alu .or (.imm n) s).run

/-- `CP n` (R199). -/
def execCp_n (n : Byte) (s : State) : Result := .next (alu .cp (.imm n) s).run

end Sys2Proof.Machine
end

