-- ==== Sys2Proof/Machine/Rotate.lean ====
section
/-! DEFINITION. Rotates, shifts and `SWAP` (`45_rotate_shift_bit.md`, R220 to R240). -/

namespace Sys2Proof.Machine

/-- An accumulator rotate (R221 to R224): `Z` is cleared, not computed. -/
def accRotate (op : RotOp) (s : State) : Work :=
  let o := accRotOut op (s.r8 .A) s.flags.c
  .done ((s.setR8 .A o.r).setFlags o.fl)

/-- `RLCA` (R221). -/
def rlca (s : State) : Work := accRotate .rlc s

/-- `RRCA` (R222). -/
def rrca (s : State) : Work := accRotate .rrc s

/-- `RLA` (R223). -/
def rla (s : State) : Work := accRotate .rl s

/-- `RRA` (R224). -/
def rra (s : State) : Work := accRotate .rr s

/-- A CB-space rotate or shift on a register or on `(HL)` (R225 to R240): the `(HL)` forms read, then write back. -/
def rotOpnd (op : RotOp) (x : Opnd8) (s : State) : Work :=
  s.withOpnd8 x fun v s =>
    let o := rotOut op v s.flags.c
    s.putOpnd8 x o.r fun s => .done (s.setFlags o.fl)

/-! ## One meaning per row of the opcode table -/

/-- `RLCA` (R221). -/
def execRlca (s : State) : Result := .next (rlca s).run

/-- `RRCA` (R222). -/
def execRrca (s : State) : Result := .next (rrca s).run

/-- `RLA` (R223). -/
def execRla (s : State) : Result := .next (rla s).run

/-- `RRA` (R224). -/
def execRra (s : State) : Result := .next (rra s).run

/-- `RLC B` (R225). -/
def execRlc_B (s : State) : Result := .next (rotOpnd .rlc (.reg .B) s).run

/-- `RLC C` (R225). -/
def execRlc_C (s : State) : Result := .next (rotOpnd .rlc (.reg .C) s).run

/-- `RLC D` (R225). -/
def execRlc_D (s : State) : Result := .next (rotOpnd .rlc (.reg .D) s).run

/-- `RLC E` (R225). -/
def execRlc_E (s : State) : Result := .next (rotOpnd .rlc (.reg .E) s).run

/-- `RLC H` (R225). -/
def execRlc_H (s : State) : Result := .next (rotOpnd .rlc (.reg .H) s).run

/-- `RLC L` (R225). -/
def execRlc_L (s : State) : Result := .next (rotOpnd .rlc (.reg .L) s).run

/-- `RLC (HL)` (R226). -/
def execRlc_atHL (s : State) : Result := .next (rotOpnd .rlc .atHL s).run

/-- `RLC A` (R225). -/
def execRlc_A (s : State) : Result := .next (rotOpnd .rlc (.reg .A) s).run

/-- `RRC B` (R227). -/
def execRrc_B (s : State) : Result := .next (rotOpnd .rrc (.reg .B) s).run

/-- `RRC C` (R227). -/
def execRrc_C (s : State) : Result := .next (rotOpnd .rrc (.reg .C) s).run

/-- `RRC D` (R227). -/
def execRrc_D (s : State) : Result := .next (rotOpnd .rrc (.reg .D) s).run

/-- `RRC E` (R227). -/
def execRrc_E (s : State) : Result := .next (rotOpnd .rrc (.reg .E) s).run

/-- `RRC H` (R227). -/
def execRrc_H (s : State) : Result := .next (rotOpnd .rrc (.reg .H) s).run

/-- `RRC L` (R227). -/
def execRrc_L (s : State) : Result := .next (rotOpnd .rrc (.reg .L) s).run

/-- `RRC (HL)` (R228). -/
def execRrc_atHL (s : State) : Result := .next (rotOpnd .rrc .atHL s).run

/-- `RRC A` (R227). -/
def execRrc_A (s : State) : Result := .next (rotOpnd .rrc (.reg .A) s).run

/-- `RL B` (R229). -/
def execRl_B (s : State) : Result := .next (rotOpnd .rl (.reg .B) s).run

/-- `RL C` (R229). -/
def execRl_C (s : State) : Result := .next (rotOpnd .rl (.reg .C) s).run

/-- `RL D` (R229). -/
def execRl_D (s : State) : Result := .next (rotOpnd .rl (.reg .D) s).run

/-- `RL E` (R229). -/
def execRl_E (s : State) : Result := .next (rotOpnd .rl (.reg .E) s).run

/-- `RL H` (R229). -/
def execRl_H (s : State) : Result := .next (rotOpnd .rl (.reg .H) s).run

/-- `RL L` (R229). -/
def execRl_L (s : State) : Result := .next (rotOpnd .rl (.reg .L) s).run

/-- `RL (HL)` (R230). -/
def execRl_atHL (s : State) : Result := .next (rotOpnd .rl .atHL s).run

/-- `RL A` (R229). -/
def execRl_A (s : State) : Result := .next (rotOpnd .rl (.reg .A) s).run

/-- `RR B` (R231). -/
def execRr_B (s : State) : Result := .next (rotOpnd .rr (.reg .B) s).run

/-- `RR C` (R231). -/
def execRr_C (s : State) : Result := .next (rotOpnd .rr (.reg .C) s).run

/-- `RR D` (R231). -/
def execRr_D (s : State) : Result := .next (rotOpnd .rr (.reg .D) s).run

/-- `RR E` (R231). -/
def execRr_E (s : State) : Result := .next (rotOpnd .rr (.reg .E) s).run

/-- `RR H` (R231). -/
def execRr_H (s : State) : Result := .next (rotOpnd .rr (.reg .H) s).run

/-- `RR L` (R231). -/
def execRr_L (s : State) : Result := .next (rotOpnd .rr (.reg .L) s).run

/-- `RR (HL)` (R232). -/
def execRr_atHL (s : State) : Result := .next (rotOpnd .rr .atHL s).run

/-- `RR A` (R231). -/
def execRr_A (s : State) : Result := .next (rotOpnd .rr (.reg .A) s).run

/-- `SLA B` (R233). -/
def execSla_B (s : State) : Result := .next (rotOpnd .sla (.reg .B) s).run

/-- `SLA C` (R233). -/
def execSla_C (s : State) : Result := .next (rotOpnd .sla (.reg .C) s).run

/-- `SLA D` (R233). -/
def execSla_D (s : State) : Result := .next (rotOpnd .sla (.reg .D) s).run

/-- `SLA E` (R233). -/
def execSla_E (s : State) : Result := .next (rotOpnd .sla (.reg .E) s).run

/-- `SLA H` (R233). -/
def execSla_H (s : State) : Result := .next (rotOpnd .sla (.reg .H) s).run

/-- `SLA L` (R233). -/
def execSla_L (s : State) : Result := .next (rotOpnd .sla (.reg .L) s).run

/-- `SLA (HL)` (R234). -/
def execSla_atHL (s : State) : Result := .next (rotOpnd .sla .atHL s).run

/-- `SLA A` (R233). -/
def execSla_A (s : State) : Result := .next (rotOpnd .sla (.reg .A) s).run

/-- `SRA B` (R235). -/
def execSra_B (s : State) : Result := .next (rotOpnd .sra (.reg .B) s).run

/-- `SRA C` (R235). -/
def execSra_C (s : State) : Result := .next (rotOpnd .sra (.reg .C) s).run

/-- `SRA D` (R235). -/
def execSra_D (s : State) : Result := .next (rotOpnd .sra (.reg .D) s).run

/-- `SRA E` (R235). -/
def execSra_E (s : State) : Result := .next (rotOpnd .sra (.reg .E) s).run

/-- `SRA H` (R235). -/
def execSra_H (s : State) : Result := .next (rotOpnd .sra (.reg .H) s).run

/-- `SRA L` (R235). -/
def execSra_L (s : State) : Result := .next (rotOpnd .sra (.reg .L) s).run

/-- `SRA (HL)` (R236). -/
def execSra_atHL (s : State) : Result := .next (rotOpnd .sra .atHL s).run

/-- `SRA A` (R235). -/
def execSra_A (s : State) : Result := .next (rotOpnd .sra (.reg .A) s).run

/-- `SWAP B` (R237). -/
def execSwap_B (s : State) : Result := .next (rotOpnd .swap (.reg .B) s).run

/-- `SWAP C` (R237). -/
def execSwap_C (s : State) : Result := .next (rotOpnd .swap (.reg .C) s).run

/-- `SWAP D` (R237). -/
def execSwap_D (s : State) : Result := .next (rotOpnd .swap (.reg .D) s).run

/-- `SWAP E` (R237). -/
def execSwap_E (s : State) : Result := .next (rotOpnd .swap (.reg .E) s).run

/-- `SWAP H` (R237). -/
def execSwap_H (s : State) : Result := .next (rotOpnd .swap (.reg .H) s).run

/-- `SWAP L` (R237). -/
def execSwap_L (s : State) : Result := .next (rotOpnd .swap (.reg .L) s).run

/-- `SWAP (HL)` (R238). -/
def execSwap_atHL (s : State) : Result := .next (rotOpnd .swap .atHL s).run

/-- `SWAP A` (R237). -/
def execSwap_A (s : State) : Result := .next (rotOpnd .swap (.reg .A) s).run

/-- `SRL B` (R239). -/
def execSrl_B (s : State) : Result := .next (rotOpnd .srl (.reg .B) s).run

/-- `SRL C` (R239). -/
def execSrl_C (s : State) : Result := .next (rotOpnd .srl (.reg .C) s).run

/-- `SRL D` (R239). -/
def execSrl_D (s : State) : Result := .next (rotOpnd .srl (.reg .D) s).run

/-- `SRL E` (R239). -/
def execSrl_E (s : State) : Result := .next (rotOpnd .srl (.reg .E) s).run

/-- `SRL H` (R239). -/
def execSrl_H (s : State) : Result := .next (rotOpnd .srl (.reg .H) s).run

/-- `SRL L` (R239). -/
def execSrl_L (s : State) : Result := .next (rotOpnd .srl (.reg .L) s).run

/-- `SRL (HL)` (R240). -/
def execSrl_atHL (s : State) : Result := .next (rotOpnd .srl .atHL s).run

/-- `SRL A` (R239). -/
def execSrl_A (s : State) : Result := .next (rotOpnd .srl (.reg .A) s).run

end Sys2Proof.Machine
end

