-- ==== Sys2Proof/Machine/Bits.lean ====
section
/-! DEFINITION. `BIT`, `RES`, `SET` (`45_rotate_shift_bit.md`, R241 to R246), and the CB space as a whole. -/

namespace Sys2Proof.Machine

/-- `BIT b` (R241, R242): nothing but the flags is written. -/
def bitOpnd (b : BitNo) (x : Opnd8) (s : State) : Work :=
  s.withOpnd8 x fun v s => .done (s.setFlags (bitFlags (v.getLsbD (bitNat b)) s.flags))

/-- `RES b` (R243, R244): no flag; the `(HL)` form writes even if the bit was 0. -/
def resOpnd (b : BitNo) (x : Opnd8) (s : State) : Work :=
  s.withOpnd8 x fun v s => s.putOpnd8 x (v &&& ~~~bitMask b) .done

/-- `SET b` (R245, R246): no flag; the `(HL)` form writes even if the bit was 1. -/
def setOpnd (b : BitNo) (x : Opnd8) (s : State) : Work :=
  s.withOpnd8 x fun v s => s.putOpnd8 x (v ||| bitMask b) .done

/-- Run the CB-space instruction of a form (R81, R220). -/
def runCb (c : CbForm) (s : State) : Work :=
  match c with
  | .rot op x => rotOpnd op x s
  | .bit b x => bitOpnd b x s
  | .res b x => resOpnd b x s
  | .set b x => setOpnd b x s

/-! ## One meaning per row of the opcode table -/

/-- `BIT 0,B` (R241). -/
def execBit_0_B (s : State) : Result := .next (bitOpnd .b0 (.reg .B) s).run

/-- `BIT 0,C` (R241). -/
def execBit_0_C (s : State) : Result := .next (bitOpnd .b0 (.reg .C) s).run

/-- `BIT 0,D` (R241). -/
def execBit_0_D (s : State) : Result := .next (bitOpnd .b0 (.reg .D) s).run

/-- `BIT 0,E` (R241). -/
def execBit_0_E (s : State) : Result := .next (bitOpnd .b0 (.reg .E) s).run

/-- `BIT 0,H` (R241). -/
def execBit_0_H (s : State) : Result := .next (bitOpnd .b0 (.reg .H) s).run

/-- `BIT 0,L` (R241). -/
def execBit_0_L (s : State) : Result := .next (bitOpnd .b0 (.reg .L) s).run

/-- `BIT 0,(HL)` (R242). -/
def execBit_0_atHL (s : State) : Result := .next (bitOpnd .b0 .atHL s).run

/-- `BIT 0,A` (R241). -/
def execBit_0_A (s : State) : Result := .next (bitOpnd .b0 (.reg .A) s).run

/-- `BIT 1,B` (R241). -/
def execBit_1_B (s : State) : Result := .next (bitOpnd .b1 (.reg .B) s).run

/-- `BIT 1,C` (R241). -/
def execBit_1_C (s : State) : Result := .next (bitOpnd .b1 (.reg .C) s).run

/-- `BIT 1,D` (R241). -/
def execBit_1_D (s : State) : Result := .next (bitOpnd .b1 (.reg .D) s).run

/-- `BIT 1,E` (R241). -/
def execBit_1_E (s : State) : Result := .next (bitOpnd .b1 (.reg .E) s).run

/-- `BIT 1,H` (R241). -/
def execBit_1_H (s : State) : Result := .next (bitOpnd .b1 (.reg .H) s).run

/-- `BIT 1,L` (R241). -/
def execBit_1_L (s : State) : Result := .next (bitOpnd .b1 (.reg .L) s).run

/-- `BIT 1,(HL)` (R242). -/
def execBit_1_atHL (s : State) : Result := .next (bitOpnd .b1 .atHL s).run

/-- `BIT 1,A` (R241). -/
def execBit_1_A (s : State) : Result := .next (bitOpnd .b1 (.reg .A) s).run

/-- `BIT 2,B` (R241). -/
def execBit_2_B (s : State) : Result := .next (bitOpnd .b2 (.reg .B) s).run

/-- `BIT 2,C` (R241). -/
def execBit_2_C (s : State) : Result := .next (bitOpnd .b2 (.reg .C) s).run

/-- `BIT 2,D` (R241). -/
def execBit_2_D (s : State) : Result := .next (bitOpnd .b2 (.reg .D) s).run

/-- `BIT 2,E` (R241). -/
def execBit_2_E (s : State) : Result := .next (bitOpnd .b2 (.reg .E) s).run

/-- `BIT 2,H` (R241). -/
def execBit_2_H (s : State) : Result := .next (bitOpnd .b2 (.reg .H) s).run

/-- `BIT 2,L` (R241). -/
def execBit_2_L (s : State) : Result := .next (bitOpnd .b2 (.reg .L) s).run

/-- `BIT 2,(HL)` (R242). -/
def execBit_2_atHL (s : State) : Result := .next (bitOpnd .b2 .atHL s).run

/-- `BIT 2,A` (R241). -/
def execBit_2_A (s : State) : Result := .next (bitOpnd .b2 (.reg .A) s).run

/-- `BIT 3,B` (R241). -/
def execBit_3_B (s : State) : Result := .next (bitOpnd .b3 (.reg .B) s).run

/-- `BIT 3,C` (R241). -/
def execBit_3_C (s : State) : Result := .next (bitOpnd .b3 (.reg .C) s).run

/-- `BIT 3,D` (R241). -/
def execBit_3_D (s : State) : Result := .next (bitOpnd .b3 (.reg .D) s).run

/-- `BIT 3,E` (R241). -/
def execBit_3_E (s : State) : Result := .next (bitOpnd .b3 (.reg .E) s).run

/-- `BIT 3,H` (R241). -/
def execBit_3_H (s : State) : Result := .next (bitOpnd .b3 (.reg .H) s).run

/-- `BIT 3,L` (R241). -/
def execBit_3_L (s : State) : Result := .next (bitOpnd .b3 (.reg .L) s).run

/-- `BIT 3,(HL)` (R242). -/
def execBit_3_atHL (s : State) : Result := .next (bitOpnd .b3 .atHL s).run

/-- `BIT 3,A` (R241). -/
def execBit_3_A (s : State) : Result := .next (bitOpnd .b3 (.reg .A) s).run

/-- `BIT 4,B` (R241). -/
def execBit_4_B (s : State) : Result := .next (bitOpnd .b4 (.reg .B) s).run

/-- `BIT 4,C` (R241). -/
def execBit_4_C (s : State) : Result := .next (bitOpnd .b4 (.reg .C) s).run

/-- `BIT 4,D` (R241). -/
def execBit_4_D (s : State) : Result := .next (bitOpnd .b4 (.reg .D) s).run

/-- `BIT 4,E` (R241). -/
def execBit_4_E (s : State) : Result := .next (bitOpnd .b4 (.reg .E) s).run

/-- `BIT 4,H` (R241). -/
def execBit_4_H (s : State) : Result := .next (bitOpnd .b4 (.reg .H) s).run

/-- `BIT 4,L` (R241). -/
def execBit_4_L (s : State) : Result := .next (bitOpnd .b4 (.reg .L) s).run

/-- `BIT 4,(HL)` (R242). -/
def execBit_4_atHL (s : State) : Result := .next (bitOpnd .b4 .atHL s).run

/-- `BIT 4,A` (R241). -/
def execBit_4_A (s : State) : Result := .next (bitOpnd .b4 (.reg .A) s).run

/-- `BIT 5,B` (R241). -/
def execBit_5_B (s : State) : Result := .next (bitOpnd .b5 (.reg .B) s).run

/-- `BIT 5,C` (R241). -/
def execBit_5_C (s : State) : Result := .next (bitOpnd .b5 (.reg .C) s).run

/-- `BIT 5,D` (R241). -/
def execBit_5_D (s : State) : Result := .next (bitOpnd .b5 (.reg .D) s).run

/-- `BIT 5,E` (R241). -/
def execBit_5_E (s : State) : Result := .next (bitOpnd .b5 (.reg .E) s).run

/-- `BIT 5,H` (R241). -/
def execBit_5_H (s : State) : Result := .next (bitOpnd .b5 (.reg .H) s).run

/-- `BIT 5,L` (R241). -/
def execBit_5_L (s : State) : Result := .next (bitOpnd .b5 (.reg .L) s).run

/-- `BIT 5,(HL)` (R242). -/
def execBit_5_atHL (s : State) : Result := .next (bitOpnd .b5 .atHL s).run

/-- `BIT 5,A` (R241). -/
def execBit_5_A (s : State) : Result := .next (bitOpnd .b5 (.reg .A) s).run

/-- `BIT 6,B` (R241). -/
def execBit_6_B (s : State) : Result := .next (bitOpnd .b6 (.reg .B) s).run

/-- `BIT 6,C` (R241). -/
def execBit_6_C (s : State) : Result := .next (bitOpnd .b6 (.reg .C) s).run

/-- `BIT 6,D` (R241). -/
def execBit_6_D (s : State) : Result := .next (bitOpnd .b6 (.reg .D) s).run

/-- `BIT 6,E` (R241). -/
def execBit_6_E (s : State) : Result := .next (bitOpnd .b6 (.reg .E) s).run

/-- `BIT 6,H` (R241). -/
def execBit_6_H (s : State) : Result := .next (bitOpnd .b6 (.reg .H) s).run

/-- `BIT 6,L` (R241). -/
def execBit_6_L (s : State) : Result := .next (bitOpnd .b6 (.reg .L) s).run

/-- `BIT 6,(HL)` (R242). -/
def execBit_6_atHL (s : State) : Result := .next (bitOpnd .b6 .atHL s).run

/-- `BIT 6,A` (R241). -/
def execBit_6_A (s : State) : Result := .next (bitOpnd .b6 (.reg .A) s).run

/-- `BIT 7,B` (R241). -/
def execBit_7_B (s : State) : Result := .next (bitOpnd .b7 (.reg .B) s).run

/-- `BIT 7,C` (R241). -/
def execBit_7_C (s : State) : Result := .next (bitOpnd .b7 (.reg .C) s).run

/-- `BIT 7,D` (R241). -/
def execBit_7_D (s : State) : Result := .next (bitOpnd .b7 (.reg .D) s).run

/-- `BIT 7,E` (R241). -/
def execBit_7_E (s : State) : Result := .next (bitOpnd .b7 (.reg .E) s).run

/-- `BIT 7,H` (R241). -/
def execBit_7_H (s : State) : Result := .next (bitOpnd .b7 (.reg .H) s).run

/-- `BIT 7,L` (R241). -/
def execBit_7_L (s : State) : Result := .next (bitOpnd .b7 (.reg .L) s).run

/-- `BIT 7,(HL)` (R242). -/
def execBit_7_atHL (s : State) : Result := .next (bitOpnd .b7 .atHL s).run

/-- `BIT 7,A` (R241). -/
def execBit_7_A (s : State) : Result := .next (bitOpnd .b7 (.reg .A) s).run

/-- `RES 0,B` (R243). -/
def execRes_0_B (s : State) : Result := .next (resOpnd .b0 (.reg .B) s).run

/-- `RES 0,C` (R243). -/
def execRes_0_C (s : State) : Result := .next (resOpnd .b0 (.reg .C) s).run

/-- `RES 0,D` (R243). -/
def execRes_0_D (s : State) : Result := .next (resOpnd .b0 (.reg .D) s).run

/-- `RES 0,E` (R243). -/
def execRes_0_E (s : State) : Result := .next (resOpnd .b0 (.reg .E) s).run

/-- `RES 0,H` (R243). -/
def execRes_0_H (s : State) : Result := .next (resOpnd .b0 (.reg .H) s).run

/-- `RES 0,L` (R243). -/
def execRes_0_L (s : State) : Result := .next (resOpnd .b0 (.reg .L) s).run

/-- `RES 0,(HL)` (R244). -/
def execRes_0_atHL (s : State) : Result := .next (resOpnd .b0 .atHL s).run

/-- `RES 0,A` (R243). -/
def execRes_0_A (s : State) : Result := .next (resOpnd .b0 (.reg .A) s).run

/-- `RES 1,B` (R243). -/
def execRes_1_B (s : State) : Result := .next (resOpnd .b1 (.reg .B) s).run

/-- `RES 1,C` (R243). -/
def execRes_1_C (s : State) : Result := .next (resOpnd .b1 (.reg .C) s).run

/-- `RES 1,D` (R243). -/
def execRes_1_D (s : State) : Result := .next (resOpnd .b1 (.reg .D) s).run

/-- `RES 1,E` (R243). -/
def execRes_1_E (s : State) : Result := .next (resOpnd .b1 (.reg .E) s).run

/-- `RES 1,H` (R243). -/
def execRes_1_H (s : State) : Result := .next (resOpnd .b1 (.reg .H) s).run

/-- `RES 1,L` (R243). -/
def execRes_1_L (s : State) : Result := .next (resOpnd .b1 (.reg .L) s).run

/-- `RES 1,(HL)` (R244). -/
def execRes_1_atHL (s : State) : Result := .next (resOpnd .b1 .atHL s).run

/-- `RES 1,A` (R243). -/
def execRes_1_A (s : State) : Result := .next (resOpnd .b1 (.reg .A) s).run

/-- `RES 2,B` (R243). -/
def execRes_2_B (s : State) : Result := .next (resOpnd .b2 (.reg .B) s).run

/-- `RES 2,C` (R243). -/
def execRes_2_C (s : State) : Result := .next (resOpnd .b2 (.reg .C) s).run

/-- `RES 2,D` (R243). -/
def execRes_2_D (s : State) : Result := .next (resOpnd .b2 (.reg .D) s).run

/-- `RES 2,E` (R243). -/
def execRes_2_E (s : State) : Result := .next (resOpnd .b2 (.reg .E) s).run

/-- `RES 2,H` (R243). -/
def execRes_2_H (s : State) : Result := .next (resOpnd .b2 (.reg .H) s).run

/-- `RES 2,L` (R243). -/
def execRes_2_L (s : State) : Result := .next (resOpnd .b2 (.reg .L) s).run

/-- `RES 2,(HL)` (R244). -/
def execRes_2_atHL (s : State) : Result := .next (resOpnd .b2 .atHL s).run

/-- `RES 2,A` (R243). -/
def execRes_2_A (s : State) : Result := .next (resOpnd .b2 (.reg .A) s).run

/-- `RES 3,B` (R243). -/
def execRes_3_B (s : State) : Result := .next (resOpnd .b3 (.reg .B) s).run

/-- `RES 3,C` (R243). -/
def execRes_3_C (s : State) : Result := .next (resOpnd .b3 (.reg .C) s).run

/-- `RES 3,D` (R243). -/
def execRes_3_D (s : State) : Result := .next (resOpnd .b3 (.reg .D) s).run

/-- `RES 3,E` (R243). -/
def execRes_3_E (s : State) : Result := .next (resOpnd .b3 (.reg .E) s).run

/-- `RES 3,H` (R243). -/
def execRes_3_H (s : State) : Result := .next (resOpnd .b3 (.reg .H) s).run

/-- `RES 3,L` (R243). -/
def execRes_3_L (s : State) : Result := .next (resOpnd .b3 (.reg .L) s).run

/-- `RES 3,(HL)` (R244). -/
def execRes_3_atHL (s : State) : Result := .next (resOpnd .b3 .atHL s).run

/-- `RES 3,A` (R243). -/
def execRes_3_A (s : State) : Result := .next (resOpnd .b3 (.reg .A) s).run

/-- `RES 4,B` (R243). -/
def execRes_4_B (s : State) : Result := .next (resOpnd .b4 (.reg .B) s).run

/-- `RES 4,C` (R243). -/
def execRes_4_C (s : State) : Result := .next (resOpnd .b4 (.reg .C) s).run

/-- `RES 4,D` (R243). -/
def execRes_4_D (s : State) : Result := .next (resOpnd .b4 (.reg .D) s).run

/-- `RES 4,E` (R243). -/
def execRes_4_E (s : State) : Result := .next (resOpnd .b4 (.reg .E) s).run

/-- `RES 4,H` (R243). -/
def execRes_4_H (s : State) : Result := .next (resOpnd .b4 (.reg .H) s).run

/-- `RES 4,L` (R243). -/
def execRes_4_L (s : State) : Result := .next (resOpnd .b4 (.reg .L) s).run

/-- `RES 4,(HL)` (R244). -/
def execRes_4_atHL (s : State) : Result := .next (resOpnd .b4 .atHL s).run

/-- `RES 4,A` (R243). -/
def execRes_4_A (s : State) : Result := .next (resOpnd .b4 (.reg .A) s).run

/-- `RES 5,B` (R243). -/
def execRes_5_B (s : State) : Result := .next (resOpnd .b5 (.reg .B) s).run

/-- `RES 5,C` (R243). -/
def execRes_5_C (s : State) : Result := .next (resOpnd .b5 (.reg .C) s).run

/-- `RES 5,D` (R243). -/
def execRes_5_D (s : State) : Result := .next (resOpnd .b5 (.reg .D) s).run

/-- `RES 5,E` (R243). -/
def execRes_5_E (s : State) : Result := .next (resOpnd .b5 (.reg .E) s).run

/-- `RES 5,H` (R243). -/
def execRes_5_H (s : State) : Result := .next (resOpnd .b5 (.reg .H) s).run

/-- `RES 5,L` (R243). -/
def execRes_5_L (s : State) : Result := .next (resOpnd .b5 (.reg .L) s).run

/-- `RES 5,(HL)` (R244). -/
def execRes_5_atHL (s : State) : Result := .next (resOpnd .b5 .atHL s).run

/-- `RES 5,A` (R243). -/
def execRes_5_A (s : State) : Result := .next (resOpnd .b5 (.reg .A) s).run

/-- `RES 6,B` (R243). -/
def execRes_6_B (s : State) : Result := .next (resOpnd .b6 (.reg .B) s).run

/-- `RES 6,C` (R243). -/
def execRes_6_C (s : State) : Result := .next (resOpnd .b6 (.reg .C) s).run

/-- `RES 6,D` (R243). -/
def execRes_6_D (s : State) : Result := .next (resOpnd .b6 (.reg .D) s).run

/-- `RES 6,E` (R243). -/
def execRes_6_E (s : State) : Result := .next (resOpnd .b6 (.reg .E) s).run

/-- `RES 6,H` (R243). -/
def execRes_6_H (s : State) : Result := .next (resOpnd .b6 (.reg .H) s).run

/-- `RES 6,L` (R243). -/
def execRes_6_L (s : State) : Result := .next (resOpnd .b6 (.reg .L) s).run

/-- `RES 6,(HL)` (R244). -/
def execRes_6_atHL (s : State) : Result := .next (resOpnd .b6 .atHL s).run

/-- `RES 6,A` (R243). -/
def execRes_6_A (s : State) : Result := .next (resOpnd .b6 (.reg .A) s).run

/-- `RES 7,B` (R243). -/
def execRes_7_B (s : State) : Result := .next (resOpnd .b7 (.reg .B) s).run

/-- `RES 7,C` (R243). -/
def execRes_7_C (s : State) : Result := .next (resOpnd .b7 (.reg .C) s).run

/-- `RES 7,D` (R243). -/
def execRes_7_D (s : State) : Result := .next (resOpnd .b7 (.reg .D) s).run

/-- `RES 7,E` (R243). -/
def execRes_7_E (s : State) : Result := .next (resOpnd .b7 (.reg .E) s).run

/-- `RES 7,H` (R243). -/
def execRes_7_H (s : State) : Result := .next (resOpnd .b7 (.reg .H) s).run

/-- `RES 7,L` (R243). -/
def execRes_7_L (s : State) : Result := .next (resOpnd .b7 (.reg .L) s).run

/-- `RES 7,(HL)` (R244). -/
def execRes_7_atHL (s : State) : Result := .next (resOpnd .b7 .atHL s).run

/-- `RES 7,A` (R243). -/
def execRes_7_A (s : State) : Result := .next (resOpnd .b7 (.reg .A) s).run

/-- `SET 0,B` (R245). -/
def execSet_0_B (s : State) : Result := .next (setOpnd .b0 (.reg .B) s).run

/-- `SET 0,C` (R245). -/
def execSet_0_C (s : State) : Result := .next (setOpnd .b0 (.reg .C) s).run

/-- `SET 0,D` (R245). -/
def execSet_0_D (s : State) : Result := .next (setOpnd .b0 (.reg .D) s).run

/-- `SET 0,E` (R245). -/
def execSet_0_E (s : State) : Result := .next (setOpnd .b0 (.reg .E) s).run

/-- `SET 0,H` (R245). -/
def execSet_0_H (s : State) : Result := .next (setOpnd .b0 (.reg .H) s).run

/-- `SET 0,L` (R245). -/
def execSet_0_L (s : State) : Result := .next (setOpnd .b0 (.reg .L) s).run

/-- `SET 0,(HL)` (R246). -/
def execSet_0_atHL (s : State) : Result := .next (setOpnd .b0 .atHL s).run

/-- `SET 0,A` (R245). -/
def execSet_0_A (s : State) : Result := .next (setOpnd .b0 (.reg .A) s).run

/-- `SET 1,B` (R245). -/
def execSet_1_B (s : State) : Result := .next (setOpnd .b1 (.reg .B) s).run

/-- `SET 1,C` (R245). -/
def execSet_1_C (s : State) : Result := .next (setOpnd .b1 (.reg .C) s).run

/-- `SET 1,D` (R245). -/
def execSet_1_D (s : State) : Result := .next (setOpnd .b1 (.reg .D) s).run

/-- `SET 1,E` (R245). -/
def execSet_1_E (s : State) : Result := .next (setOpnd .b1 (.reg .E) s).run

/-- `SET 1,H` (R245). -/
def execSet_1_H (s : State) : Result := .next (setOpnd .b1 (.reg .H) s).run

/-- `SET 1,L` (R245). -/
def execSet_1_L (s : State) : Result := .next (setOpnd .b1 (.reg .L) s).run

/-- `SET 1,(HL)` (R246). -/
def execSet_1_atHL (s : State) : Result := .next (setOpnd .b1 .atHL s).run

/-- `SET 1,A` (R245). -/
def execSet_1_A (s : State) : Result := .next (setOpnd .b1 (.reg .A) s).run

/-- `SET 2,B` (R245). -/
def execSet_2_B (s : State) : Result := .next (setOpnd .b2 (.reg .B) s).run

/-- `SET 2,C` (R245). -/
def execSet_2_C (s : State) : Result := .next (setOpnd .b2 (.reg .C) s).run

/-- `SET 2,D` (R245). -/
def execSet_2_D (s : State) : Result := .next (setOpnd .b2 (.reg .D) s).run

/-- `SET 2,E` (R245). -/
def execSet_2_E (s : State) : Result := .next (setOpnd .b2 (.reg .E) s).run

/-- `SET 2,H` (R245). -/
def execSet_2_H (s : State) : Result := .next (setOpnd .b2 (.reg .H) s).run

/-- `SET 2,L` (R245). -/
def execSet_2_L (s : State) : Result := .next (setOpnd .b2 (.reg .L) s).run

/-- `SET 2,(HL)` (R246). -/
def execSet_2_atHL (s : State) : Result := .next (setOpnd .b2 .atHL s).run

/-- `SET 2,A` (R245). -/
def execSet_2_A (s : State) : Result := .next (setOpnd .b2 (.reg .A) s).run

/-- `SET 3,B` (R245). -/
def execSet_3_B (s : State) : Result := .next (setOpnd .b3 (.reg .B) s).run

/-- `SET 3,C` (R245). -/
def execSet_3_C (s : State) : Result := .next (setOpnd .b3 (.reg .C) s).run

/-- `SET 3,D` (R245). -/
def execSet_3_D (s : State) : Result := .next (setOpnd .b3 (.reg .D) s).run

/-- `SET 3,E` (R245). -/
def execSet_3_E (s : State) : Result := .next (setOpnd .b3 (.reg .E) s).run

/-- `SET 3,H` (R245). -/
def execSet_3_H (s : State) : Result := .next (setOpnd .b3 (.reg .H) s).run

/-- `SET 3,L` (R245). -/
def execSet_3_L (s : State) : Result := .next (setOpnd .b3 (.reg .L) s).run

/-- `SET 3,(HL)` (R246). -/
def execSet_3_atHL (s : State) : Result := .next (setOpnd .b3 .atHL s).run

/-- `SET 3,A` (R245). -/
def execSet_3_A (s : State) : Result := .next (setOpnd .b3 (.reg .A) s).run

/-- `SET 4,B` (R245). -/
def execSet_4_B (s : State) : Result := .next (setOpnd .b4 (.reg .B) s).run

/-- `SET 4,C` (R245). -/
def execSet_4_C (s : State) : Result := .next (setOpnd .b4 (.reg .C) s).run

/-- `SET 4,D` (R245). -/
def execSet_4_D (s : State) : Result := .next (setOpnd .b4 (.reg .D) s).run

/-- `SET 4,E` (R245). -/
def execSet_4_E (s : State) : Result := .next (setOpnd .b4 (.reg .E) s).run

/-- `SET 4,H` (R245). -/
def execSet_4_H (s : State) : Result := .next (setOpnd .b4 (.reg .H) s).run

/-- `SET 4,L` (R245). -/
def execSet_4_L (s : State) : Result := .next (setOpnd .b4 (.reg .L) s).run

/-- `SET 4,(HL)` (R246). -/
def execSet_4_atHL (s : State) : Result := .next (setOpnd .b4 .atHL s).run

/-- `SET 4,A` (R245). -/
def execSet_4_A (s : State) : Result := .next (setOpnd .b4 (.reg .A) s).run

/-- `SET 5,B` (R245). -/
def execSet_5_B (s : State) : Result := .next (setOpnd .b5 (.reg .B) s).run

/-- `SET 5,C` (R245). -/
def execSet_5_C (s : State) : Result := .next (setOpnd .b5 (.reg .C) s).run

/-- `SET 5,D` (R245). -/
def execSet_5_D (s : State) : Result := .next (setOpnd .b5 (.reg .D) s).run

/-- `SET 5,E` (R245). -/
def execSet_5_E (s : State) : Result := .next (setOpnd .b5 (.reg .E) s).run

/-- `SET 5,H` (R245). -/
def execSet_5_H (s : State) : Result := .next (setOpnd .b5 (.reg .H) s).run

/-- `SET 5,L` (R245). -/
def execSet_5_L (s : State) : Result := .next (setOpnd .b5 (.reg .L) s).run

/-- `SET 5,(HL)` (R246). -/
def execSet_5_atHL (s : State) : Result := .next (setOpnd .b5 .atHL s).run

/-- `SET 5,A` (R245). -/
def execSet_5_A (s : State) : Result := .next (setOpnd .b5 (.reg .A) s).run

/-- `SET 6,B` (R245). -/
def execSet_6_B (s : State) : Result := .next (setOpnd .b6 (.reg .B) s).run

/-- `SET 6,C` (R245). -/
def execSet_6_C (s : State) : Result := .next (setOpnd .b6 (.reg .C) s).run

/-- `SET 6,D` (R245). -/
def execSet_6_D (s : State) : Result := .next (setOpnd .b6 (.reg .D) s).run

/-- `SET 6,E` (R245). -/
def execSet_6_E (s : State) : Result := .next (setOpnd .b6 (.reg .E) s).run

/-- `SET 6,H` (R245). -/
def execSet_6_H (s : State) : Result := .next (setOpnd .b6 (.reg .H) s).run

/-- `SET 6,L` (R245). -/
def execSet_6_L (s : State) : Result := .next (setOpnd .b6 (.reg .L) s).run

/-- `SET 6,(HL)` (R246). -/
def execSet_6_atHL (s : State) : Result := .next (setOpnd .b6 .atHL s).run

/-- `SET 6,A` (R245). -/
def execSet_6_A (s : State) : Result := .next (setOpnd .b6 (.reg .A) s).run

/-- `SET 7,B` (R245). -/
def execSet_7_B (s : State) : Result := .next (setOpnd .b7 (.reg .B) s).run

/-- `SET 7,C` (R245). -/
def execSet_7_C (s : State) : Result := .next (setOpnd .b7 (.reg .C) s).run

/-- `SET 7,D` (R245). -/
def execSet_7_D (s : State) : Result := .next (setOpnd .b7 (.reg .D) s).run

/-- `SET 7,E` (R245). -/
def execSet_7_E (s : State) : Result := .next (setOpnd .b7 (.reg .E) s).run

/-- `SET 7,H` (R245). -/
def execSet_7_H (s : State) : Result := .next (setOpnd .b7 (.reg .H) s).run

/-- `SET 7,L` (R245). -/
def execSet_7_L (s : State) : Result := .next (setOpnd .b7 (.reg .L) s).run

/-- `SET 7,(HL)` (R246). -/
def execSet_7_atHL (s : State) : Result := .next (setOpnd .b7 .atHL s).run

/-- `SET 7,A` (R245). -/
def execSet_7_A (s : State) : Result := .next (setOpnd .b7 (.reg .A) s).run

end Sys2Proof.Machine
end

