-- ==== Sys2Proof/Machine/Control.lean ====
section
/-! DEFINITION. Control flow (`46_control_flow.md`, R250 to R261). `PC` has passed the instruction's bytes when its
meaning begins (R27). No flag changes. -/

namespace Sys2Proof.Machine

/-- `JP nn` (R251). -/
def jp (nn : Word) (s : State) : Work := s.idling fun s => .done (s.setPC nn)

/-- `JP cc,nn` (R252). -/
def jpCond (cc : Cond) (nn : Word) (s : State) : Work := bif s.flags.cond cc then jp nn s else .done s

/-- `JP HL` (R253): the target is the value of `HL`; no memory is read. -/
def jpHL (s : State) : Work := .done (s.setPC s.hl)

/-- `JR e` (R254): relative to the address after the instruction. -/
def jr (e : Byte) (s : State) : Work := s.idling fun s => .done (s.setPC (s.pc + sext16 e))

/-- `JR cc,e` (R255). -/
def jrCond (cc : Cond) (e : Byte) (s : State) : Work := bif s.flags.cond cc then jr e s else .done s

/-- `CALL nn` (R256). -/
def call (nn : Word) (s : State) : Work :=
  s.idling fun s => s.push16 s.pc fun s => .done (s.setPC nn)

/-- `CALL cc,nn` (R257): not taken, no stack access. -/
def callCond (cc : Cond) (nn : Word) (s : State) : Work :=
  bif s.flags.cond cc then call nn s else .done s

/-- `RET` (R258). -/
def ret (s : State) : Work := s.popping fun v s => s.idling fun s => .done (s.setPC v)

/-- `RET cc` (R259): one M-cycle evaluates the flag; not taken, no stack access. -/
def retCond (cc : Cond) (s : State) : Work :=
  s.idling fun s => bif s.flags.cond cc then ret s else .done s

/-- `RETI` (R260). -/
def reti (s : State) : Work := s.returnFromInterrupt

/-- `RST t` (R261). -/
def rst (t : RstTarget) (s : State) : Work :=
  s.idling fun s => s.push16 s.pc fun s => .done (s.setPC (rstAddr t))

/-! ## One meaning per row of the opcode table -/

/-- `JR e` (R254). -/
def execJr_e (e : Byte) (s : State) : Result := .next (jr e s).run

/-- `JR NZ,e` (R255). -/
def execJr_NZ_e (e : Byte) (s : State) : Result := .next (jrCond .NZ e s).run

/-- `JR Z,e` (R255). -/
def execJr_Z_e (e : Byte) (s : State) : Result := .next (jrCond .Z e s).run

/-- `JR NC,e` (R255). -/
def execJr_NC_e (e : Byte) (s : State) : Result := .next (jrCond .NC e s).run

/-- `JR C,e` (R255). -/
def execJr_C_e (e : Byte) (s : State) : Result := .next (jrCond .C e s).run

/-- `RET NZ` (R259). -/
def execRet_NZ (s : State) : Result := .next (retCond .NZ s).run

/-- `JP NZ,nn` (R252). -/
def execJp_NZ_nn (nn : Word) (s : State) : Result := .next (jpCond .NZ nn s).run

/-- `JP nn` (R251). -/
def execJp_nn (nn : Word) (s : State) : Result := .next (jp nn s).run

/-- `CALL NZ,nn` (R257). -/
def execCall_NZ_nn (nn : Word) (s : State) : Result := .next (callCond .NZ nn s).run

/-- `RST 0x00` (R261). -/
def execRst_00 (s : State) : Result := .next (rst .t00 s).run

/-- `RET Z` (R259). -/
def execRet_Z (s : State) : Result := .next (retCond .Z s).run

/-- `RET` (R258). -/
def execRet (s : State) : Result := .next (ret s).run

/-- `JP Z,nn` (R252). -/
def execJp_Z_nn (nn : Word) (s : State) : Result := .next (jpCond .Z nn s).run

/-- `CALL Z,nn` (R257). -/
def execCall_Z_nn (nn : Word) (s : State) : Result := .next (callCond .Z nn s).run

/-- `CALL nn` (R256). -/
def execCall_nn (nn : Word) (s : State) : Result := .next (call nn s).run

/-- `RST 0x08` (R261). -/
def execRst_08 (s : State) : Result := .next (rst .t08 s).run

/-- `RET NC` (R259). -/
def execRet_NC (s : State) : Result := .next (retCond .NC s).run

/-- `JP NC,nn` (R252). -/
def execJp_NC_nn (nn : Word) (s : State) : Result := .next (jpCond .NC nn s).run

/-- `CALL NC,nn` (R257). -/
def execCall_NC_nn (nn : Word) (s : State) : Result := .next (callCond .NC nn s).run

/-- `RST 0x10` (R261). -/
def execRst_10 (s : State) : Result := .next (rst .t10 s).run

/-- `RET C` (R259). -/
def execRet_C (s : State) : Result := .next (retCond .C s).run

/-- `RETI` (R260). -/
def execReti (s : State) : Result := .next (reti s).run

/-- `JP C,nn` (R252). -/
def execJp_C_nn (nn : Word) (s : State) : Result := .next (jpCond .C nn s).run

/-- `CALL C,nn` (R257). -/
def execCall_C_nn (nn : Word) (s : State) : Result := .next (callCond .C nn s).run

/-- `RST 0x18` (R261). -/
def execRst_18 (s : State) : Result := .next (rst .t18 s).run

/-- `RST 0x20` (R261). -/
def execRst_20 (s : State) : Result := .next (rst .t20 s).run

/-- `JP HL` (R253). -/
def execJp_HL (s : State) : Result := .next (jpHL s).run

/-- `RST 0x28` (R261). -/
def execRst_28 (s : State) : Result := .next (rst .t28 s).run

/-- `RST 0x30` (R261). -/
def execRst_30 (s : State) : Result := .next (rst .t30 s).run

/-- `RST 0x38` (R261). -/
def execRst_38 (s : State) : Result := .next (rst .t38 s).run

end Sys2Proof.Machine
end

