-- ==== Sys2Proof/Machine/Load16.lean ====
section
/-! DEFINITION. The 16-bit loads and the stack instructions (`42_load16_stack.md`, R160 to R166). -/

namespace Sys2Proof.Machine

/-- `LD rr,nn` (R161). -/
def ldPairImm (p : Pair) (nn : Word) (s : State) : Work := .done (s.setPair p nn)

/-- `LD (nn),SP` (R162): the low byte is written first. -/
def ldAtNnSP (nn : Word) (s : State) : Work :=
  s.writing nn (lo s.sp) fun s => s.writing (nn + 1) (hi s.sp) .done

/-- `LD SP,HL` (R163). -/
def ldSPHL (s : State) : Work := s.idling fun s => .done (s.setSP s.hl)

/-- `PUSH rr` (R164). -/
def push (q : StackPair) (s : State) : Work := s.idling fun s => s.push16 (s.stackPair q) .done

/-- `POP rr` (R165); `POP AF` drops bits 3:0 of the popped low byte. -/
def pop (q : StackPair) (s : State) : Work := s.popping fun v s => .done (s.setStackPair q v)

/-- `LD HL,SP+e` (R166): `Z=0 N=0 H=h C=c`. -/
def ldHLSPe (e : Byte) (s : State) : Work :=
  s.idling fun s =>
    let a := addsp s.sp e
    .done ((s.setHL a.r).setFlags { z := false, n := false, h := a.h, c := a.c })

/-! ## One meaning per row of the opcode table -/

/-- `LD BC,nn` (R161). -/
def execLd_BC_nn (nn : Word) (s : State) : Result := .next (ldPairImm .BC nn s).run

/-- `LD (nn),SP` (R162). -/
def execLd_atNn_SP (nn : Word) (s : State) : Result := .next (ldAtNnSP nn s).run

/-- `LD DE,nn` (R161). -/
def execLd_DE_nn (nn : Word) (s : State) : Result := .next (ldPairImm .DE nn s).run

/-- `LD HL,nn` (R161). -/
def execLd_HL_nn (nn : Word) (s : State) : Result := .next (ldPairImm .HL nn s).run

/-- `LD SP,nn` (R161). -/
def execLd_SP_nn (nn : Word) (s : State) : Result := .next (ldPairImm .SP nn s).run

/-- `POP BC` (R165). -/
def execPop_BC (s : State) : Result := .next (pop .BC s).run

/-- `PUSH BC` (R164). -/
def execPush_BC (s : State) : Result := .next (push .BC s).run

/-- `POP DE` (R165). -/
def execPop_DE (s : State) : Result := .next (pop .DE s).run

/-- `PUSH DE` (R164). -/
def execPush_DE (s : State) : Result := .next (push .DE s).run

/-- `POP HL` (R165). -/
def execPop_HL (s : State) : Result := .next (pop .HL s).run

/-- `PUSH HL` (R164). -/
def execPush_HL (s : State) : Result := .next (push .HL s).run

/-- `POP AF` (R165). -/
def execPop_AF (s : State) : Result := .next (pop .AF s).run

/-- `PUSH AF` (R164). -/
def execPush_AF (s : State) : Result := .next (push .AF s).run

/-- `LD HL,SP+e` (R166). -/
def execLd_HL_SPe (e : Byte) (s : State) : Result := .next (ldHLSPe e s).run

/-- `LD SP,HL` (R163). -/
def execLd_SP_HL (s : State) : Result := .next (ldSPHL s).run

end Sys2Proof.Machine
end

