-- ==== Sys2Proof/Machine/Load8.lean ====
section
/-! DEFINITION. The 8-bit loads (`41_load8.md`, R130 to R150). No flag changes. -/

namespace Sys2Proof.Machine

/-- `LD r,r'` (R131). -/
def ldRegReg (d r : Reg8) (s : State) : Work := .done (s.setR8 d (s.r8 r))

/-- `LD r,n` (R132). -/
def ldRegImm (d : Reg8) (n : Byte) (s : State) : Work := .done (s.setR8 d n)

/-- `LD r,(HL)` (R133): the address is the old `HL`. -/
def ldRegAtHL (d : Reg8) (s : State) : Work := s.reading s.hl fun v s => .done (s.setR8 d v)

/-- `LD (HL),r` (R134). -/
def ldAtHLReg (r : Reg8) (s : State) : Work := s.writing s.hl (s.r8 r) .done

/-- `LD (HL),n` (R135). -/
def ldAtHLImm (n : Byte) (s : State) : Work := s.writing s.hl n .done

/-- `LD A,(..)` and `LDH A,(..)` (R136, R137, R140, R142, R144, R146, R148). -/
def loadA (m : AccMode) (s : State) : Work :=
  s.reading (s.accAddr m) fun v s => .done ((s.setR8 .A v).accUpdate m)

/-- `LD (..),A` and `LDH (..),A` (R138, R139, R141, R143, R145, R147, R149). -/
def storeA (m : AccMode) (s : State) : Work :=
  s.writing (s.accAddr m) (s.r8 .A) fun s => .done (s.accUpdate m)

/-! ## One meaning per row of the opcode table -/

/-- `LD (BC),A` (R138). -/
def execLd_atBC_A (s : State) : Result := .next (storeA .atBC s).run

/-- `LD B,n` (R132). -/
def execLd_B_n (n : Byte) (s : State) : Result := .next (ldRegImm .B n s).run

/-- `LD A,(BC)` (R136). -/
def execLd_A_atBC (s : State) : Result := .next (loadA .atBC s).run

/-- `LD C,n` (R132). -/
def execLd_C_n (n : Byte) (s : State) : Result := .next (ldRegImm .C n s).run

/-- `LD (DE),A` (R139). -/
def execLd_atDE_A (s : State) : Result := .next (storeA .atDE s).run

/-- `LD D,n` (R132). -/
def execLd_D_n (n : Byte) (s : State) : Result := .next (ldRegImm .D n s).run

/-- `LD A,(DE)` (R137). -/
def execLd_A_atDE (s : State) : Result := .next (loadA .atDE s).run

/-- `LD E,n` (R132). -/
def execLd_E_n (n : Byte) (s : State) : Result := .next (ldRegImm .E n s).run

/-- `LD (HL+),A` (R149). -/
def execLd_atHLinc_A (s : State) : Result := .next (storeA .atHLinc s).run

/-- `LD H,n` (R132). -/
def execLd_H_n (n : Byte) (s : State) : Result := .next (ldRegImm .H n s).run

/-- `LD A,(HL+)` (R148). -/
def execLd_A_atHLinc (s : State) : Result := .next (loadA .atHLinc s).run

/-- `LD L,n` (R132). -/
def execLd_L_n (n : Byte) (s : State) : Result := .next (ldRegImm .L n s).run

/-- `LD (HL-),A` (R147). -/
def execLd_atHLdec_A (s : State) : Result := .next (storeA .atHLdec s).run

/-- `LD (HL),n` (R135). -/
def execLd_atHL_n (n : Byte) (s : State) : Result := .next (ldAtHLImm n s).run

/-- `LD A,(HL-)` (R146). -/
def execLd_A_atHLdec (s : State) : Result := .next (loadA .atHLdec s).run

/-- `LD A,n` (R132). -/
def execLd_A_n (n : Byte) (s : State) : Result := .next (ldRegImm .A n s).run

/-- `LD B,B` (R131). -/
def execLd_B_B (s : State) : Result := .next (ldRegReg .B .B s).run

/-- `LD B,C` (R131). -/
def execLd_B_C (s : State) : Result := .next (ldRegReg .B .C s).run

/-- `LD B,D` (R131). -/
def execLd_B_D (s : State) : Result := .next (ldRegReg .B .D s).run

/-- `LD B,E` (R131). -/
def execLd_B_E (s : State) : Result := .next (ldRegReg .B .E s).run

/-- `LD B,H` (R131). -/
def execLd_B_H (s : State) : Result := .next (ldRegReg .B .H s).run

/-- `LD B,L` (R131). -/
def execLd_B_L (s : State) : Result := .next (ldRegReg .B .L s).run

/-- `LD B,(HL)` (R133). -/
def execLd_B_atHL (s : State) : Result := .next (ldRegAtHL .B s).run

/-- `LD B,A` (R131). -/
def execLd_B_A (s : State) : Result := .next (ldRegReg .B .A s).run

/-- `LD C,B` (R131). -/
def execLd_C_B (s : State) : Result := .next (ldRegReg .C .B s).run

/-- `LD C,C` (R131). -/
def execLd_C_C (s : State) : Result := .next (ldRegReg .C .C s).run

/-- `LD C,D` (R131). -/
def execLd_C_D (s : State) : Result := .next (ldRegReg .C .D s).run

/-- `LD C,E` (R131). -/
def execLd_C_E (s : State) : Result := .next (ldRegReg .C .E s).run

/-- `LD C,H` (R131). -/
def execLd_C_H (s : State) : Result := .next (ldRegReg .C .H s).run

/-- `LD C,L` (R131). -/
def execLd_C_L (s : State) : Result := .next (ldRegReg .C .L s).run

/-- `LD C,(HL)` (R133). -/
def execLd_C_atHL (s : State) : Result := .next (ldRegAtHL .C s).run

/-- `LD C,A` (R131). -/
def execLd_C_A (s : State) : Result := .next (ldRegReg .C .A s).run

/-- `LD D,B` (R131). -/
def execLd_D_B (s : State) : Result := .next (ldRegReg .D .B s).run

/-- `LD D,C` (R131). -/
def execLd_D_C (s : State) : Result := .next (ldRegReg .D .C s).run

/-- `LD D,D` (R131). -/
def execLd_D_D (s : State) : Result := .next (ldRegReg .D .D s).run

/-- `LD D,E` (R131). -/
def execLd_D_E (s : State) : Result := .next (ldRegReg .D .E s).run

/-- `LD D,H` (R131). -/
def execLd_D_H (s : State) : Result := .next (ldRegReg .D .H s).run

/-- `LD D,L` (R131). -/
def execLd_D_L (s : State) : Result := .next (ldRegReg .D .L s).run

/-- `LD D,(HL)` (R133). -/
def execLd_D_atHL (s : State) : Result := .next (ldRegAtHL .D s).run

/-- `LD D,A` (R131). -/
def execLd_D_A (s : State) : Result := .next (ldRegReg .D .A s).run

/-- `LD E,B` (R131). -/
def execLd_E_B (s : State) : Result := .next (ldRegReg .E .B s).run

/-- `LD E,C` (R131). -/
def execLd_E_C (s : State) : Result := .next (ldRegReg .E .C s).run

/-- `LD E,D` (R131). -/
def execLd_E_D (s : State) : Result := .next (ldRegReg .E .D s).run

/-- `LD E,E` (R131). -/
def execLd_E_E (s : State) : Result := .next (ldRegReg .E .E s).run

/-- `LD E,H` (R131). -/
def execLd_E_H (s : State) : Result := .next (ldRegReg .E .H s).run

/-- `LD E,L` (R131). -/
def execLd_E_L (s : State) : Result := .next (ldRegReg .E .L s).run

/-- `LD E,(HL)` (R133). -/
def execLd_E_atHL (s : State) : Result := .next (ldRegAtHL .E s).run

/-- `LD E,A` (R131). -/
def execLd_E_A (s : State) : Result := .next (ldRegReg .E .A s).run

/-- `LD H,B` (R131). -/
def execLd_H_B (s : State) : Result := .next (ldRegReg .H .B s).run

/-- `LD H,C` (R131). -/
def execLd_H_C (s : State) : Result := .next (ldRegReg .H .C s).run

/-- `LD H,D` (R131). -/
def execLd_H_D (s : State) : Result := .next (ldRegReg .H .D s).run

/-- `LD H,E` (R131). -/
def execLd_H_E (s : State) : Result := .next (ldRegReg .H .E s).run

/-- `LD H,H` (R131). -/
def execLd_H_H (s : State) : Result := .next (ldRegReg .H .H s).run

/-- `LD H,L` (R131). -/
def execLd_H_L (s : State) : Result := .next (ldRegReg .H .L s).run

/-- `LD H,(HL)` (R133). -/
def execLd_H_atHL (s : State) : Result := .next (ldRegAtHL .H s).run

/-- `LD H,A` (R131). -/
def execLd_H_A (s : State) : Result := .next (ldRegReg .H .A s).run

/-- `LD L,B` (R131). -/
def execLd_L_B (s : State) : Result := .next (ldRegReg .L .B s).run

/-- `LD L,C` (R131). -/
def execLd_L_C (s : State) : Result := .next (ldRegReg .L .C s).run

/-- `LD L,D` (R131). -/
def execLd_L_D (s : State) : Result := .next (ldRegReg .L .D s).run

/-- `LD L,E` (R131). -/
def execLd_L_E (s : State) : Result := .next (ldRegReg .L .E s).run

/-- `LD L,H` (R131). -/
def execLd_L_H (s : State) : Result := .next (ldRegReg .L .H s).run

/-- `LD L,L` (R131). -/
def execLd_L_L (s : State) : Result := .next (ldRegReg .L .L s).run

/-- `LD L,(HL)` (R133). -/
def execLd_L_atHL (s : State) : Result := .next (ldRegAtHL .L s).run

/-- `LD L,A` (R131). -/
def execLd_L_A (s : State) : Result := .next (ldRegReg .L .A s).run

/-- `LD (HL),B` (R134). -/
def execLd_atHL_B (s : State) : Result := .next (ldAtHLReg .B s).run

/-- `LD (HL),C` (R134). -/
def execLd_atHL_C (s : State) : Result := .next (ldAtHLReg .C s).run

/-- `LD (HL),D` (R134). -/
def execLd_atHL_D (s : State) : Result := .next (ldAtHLReg .D s).run

/-- `LD (HL),E` (R134). -/
def execLd_atHL_E (s : State) : Result := .next (ldAtHLReg .E s).run

/-- `LD (HL),H` (R134). -/
def execLd_atHL_H (s : State) : Result := .next (ldAtHLReg .H s).run

/-- `LD (HL),L` (R134). -/
def execLd_atHL_L (s : State) : Result := .next (ldAtHLReg .L s).run

/-- `LD (HL),A` (R134). -/
def execLd_atHL_A (s : State) : Result := .next (ldAtHLReg .A s).run

/-- `LD A,B` (R131). -/
def execLd_A_B (s : State) : Result := .next (ldRegReg .A .B s).run

/-- `LD A,C` (R131). -/
def execLd_A_C (s : State) : Result := .next (ldRegReg .A .C s).run

/-- `LD A,D` (R131). -/
def execLd_A_D (s : State) : Result := .next (ldRegReg .A .D s).run

/-- `LD A,E` (R131). -/
def execLd_A_E (s : State) : Result := .next (ldRegReg .A .E s).run

/-- `LD A,H` (R131). -/
def execLd_A_H (s : State) : Result := .next (ldRegReg .A .H s).run

/-- `LD A,L` (R131). -/
def execLd_A_L (s : State) : Result := .next (ldRegReg .A .L s).run

/-- `LD A,(HL)` (R133). -/
def execLd_A_atHL (s : State) : Result := .next (ldRegAtHL .A s).run

/-- `LD A,A` (R131). -/
def execLd_A_A (s : State) : Result := .next (ldRegReg .A .A s).run

/-- `LDH (n),A` (R145). -/
def execLdh_atN_A (n : Byte) (s : State) : Result := .next (storeA (.atHighN n) s).run

/-- `LDH (C),A` (R143). -/
def execLdh_atC_A (s : State) : Result := .next (storeA .atHighC s).run

/-- `LD (nn),A` (R141). -/
def execLd_atNn_A (nn : Word) (s : State) : Result := .next (storeA (.atNn nn) s).run

/-- `LDH A,(n)` (R144). -/
def execLdh_A_atN (n : Byte) (s : State) : Result := .next (loadA (.atHighN n) s).run

/-- `LDH A,(C)` (R142). -/
def execLdh_A_atC (s : State) : Result := .next (loadA .atHighC s).run

/-- `LD A,(nn)` (R140). -/
def execLd_A_atNn (nn : Word) (s : State) : Result := .next (loadA (.atNn nn) s).run

end Sys2Proof.Machine
end

