-- ==== Sys2Proof/Machine/Misc.lean ====
section
/-! DEFINITION. Miscellaneous and machine control (`47_misc_control.md`, R270 to R276). -/

namespace Sys2Proof.Machine

/-- `NOP` (R270): the fetch has already advanced `PC`. -/
def nop (s : State) : Work := .done s

/-- `HALT` (R271). -/
def halt (s : State) : Work := .done (s.setHalted true)

/-- `STOP` with the parameter `STOP_BEHAVIOUR` (R272, R4): `PC` steps over the second byte without reading it. -/
def stopWith (b : Config.StopBehaviour) (s : State) : Work :=
  match b with
  | .haltLike => .done ((s.setPC (s.pc + 1)).setHalted true)

/-- `STOP` (R272): halt-like (decision D11). -/
def stop (s : State) : Work := stopWith Config.params.stopBehaviour s

/-- `DI` (R273). -/
def di (s : State) : Work := .done (s.setIME false)

/-- `EI` with the parameter `EI_DELAY` (R274, R4). -/
def eiWith (d : Config.EiDelay) (s : State) : Work :=
  match d with
  | .zero => .done (s.setIME true)

/-- `EI` (R274): at retirement (`EI_DELAY = 0`, decision D9). -/
def ei (s : State) : Work := eiWith Config.params.eiDelay s

/-- The invalid-opcode behaviour (R275): takes the fault `UnsupportedOpcode` with the byte just fetched. -/
def invalidOpcode (b : Byte) (s : State) : Work := .done (s.raiseUnsupportedOpcode b)

/-- An invalid opcode of the table (R275). -/
def invalid (k : InvalidOp) (s : State) : Work := invalidOpcode (invalidByte k) s

/-- The prefix, run on its own (R276): `cbop <- Fetch8(); run decode(CB, cbop)`. The decoder joins the prefix and `cbop`
into one instruction and never yields it (log 12). -/
def runPrefix (s : State) : Work := s.fetching fun cbop s => runCb (cbFormOf cbop) s

/-! ## One meaning per row of the opcode table -/

/-- `NOP` (R270). -/
def execNop (s : State) : Result := .next (nop s).run

/-- `STOP` (R272). -/
def execStop (s : State) : Result := .next (stop s).run

/-- `HALT` (R271). -/
def execHalt (s : State) : Result := .next (halt s).run

/-- `PREFIX CB` (R276). -/
def execCbPrefix (s : State) : Result := .next (runPrefix s).run

/-- `INVALID 0xD3` (R275). -/
def execInvalid_D3 (s : State) : Result := .next (invalid .xD3 s).run

/-- `INVALID 0xDB` (R275). -/
def execInvalid_DB (s : State) : Result := .next (invalid .xDB s).run

/-- `INVALID 0xDD` (R275). -/
def execInvalid_DD (s : State) : Result := .next (invalid .xDD s).run

/-- `INVALID 0xE3` (R275). -/
def execInvalid_E3 (s : State) : Result := .next (invalid .xE3 s).run

/-- `INVALID 0xE4` (R275). -/
def execInvalid_E4 (s : State) : Result := .next (invalid .xE4 s).run

/-- `INVALID 0xEB` (R275). -/
def execInvalid_EB (s : State) : Result := .next (invalid .xEB s).run

/-- `INVALID 0xEC` (R275). -/
def execInvalid_EC (s : State) : Result := .next (invalid .xEC s).run

/-- `INVALID 0xED` (R275). -/
def execInvalid_ED (s : State) : Result := .next (invalid .xED s).run

/-- `DI` (R273). -/
def execDi (s : State) : Result := .next (di s).run

/-- `INVALID 0xF4` (R275). -/
def execInvalid_F4 (s : State) : Result := .next (invalid .xF4 s).run

/-- `EI` (R274). -/
def execEi (s : State) : Result := .next (ei s).run

/-- `INVALID 0xFC` (R275). -/
def execInvalid_FC (s : State) : Result := .next (invalid .xFC s).run

/-- `INVALID 0xFD` (R275). -/
def execInvalid_FD (s : State) : Result := .next (invalid .xFD s).run

end Sys2Proof.Machine
end

