-- ==== Sys2Proof/Machine/Forms.lean ====
section
/-! DEFINITION. The behaviour each form selects (R107, R113), for the M-cycle driver (Driver.lean), which performs it one
M-cycle at a time; and the number of M-cycles of each form (R350). -/

namespace Sys2Proof.Machine

/-- The work of a form, once its bytes have been fetched. -/
def formWork (f : Form) (s : State) : Work :=
  match f with
  | .nop => nop s
  | .halt => halt s
  | .stop => stop s
  | .di => di s
  | .ei => ei s
  | .invalid k => invalid k s
  | .cbPrefix => runPrefix s
  | .ldRegReg d r => ldRegReg d r s
  | .ldRegImm d n => ldRegImm d n s
  | .ldRegAtHL d => ldRegAtHL d s
  | .ldAtHLReg r => ldAtHLReg r s
  | .ldAtHLImm n => ldAtHLImm n s
  | .loadA m => loadA m s
  | .storeA m => storeA m s
  | .ldPairImm p nn => ldPairImm p nn s
  | .ldAtNnSP nn => ldAtNnSP nn s
  | .ldSPHL => ldSPHL s
  | .push q => push q s
  | .pop q => pop q s
  | .ldHLSPe e => ldHLSPe e s
  | .alu op x => alu op x s
  | .incReg r => incReg r s
  | .incAtHL => incAtHL s
  | .decReg r => decReg r s
  | .decAtHL => decAtHL s
  | .daa => daa s
  | .cpl => cpl s
  | .scf => scf s
  | .ccf => ccf s
  | .addHL p => addHL p s
  | .incPair p => incPair p s
  | .decPair p => decPair p s
  | .addSPe e => addSPe e s
  | .rlca => rlca s
  | .rrca => rrca s
  | .rla => rla s
  | .rra => rra s
  | .cb c => runCb c s
  | .jp nn => jp nn s
  | .jpCond cc nn => jpCond cc nn s
  | .jpHL => jpHL s
  | .jr e => jr e s
  | .jrCond cc e => jrCond cc e s
  | .call nn => call nn s
  | .callCond cc nn => callCond cc nn s
  | .ret => ret s
  | .retCond cc => retCond cc s
  | .reti => reti s
  | .rst t => rst t s

/-- M-cycles of an accumulator load or store (R350). -/
def accModeCycles : AccMode → Nat
  | .atBC => 2
  | .atDE => 2
  | .atHLinc => 2
  | .atHLdec => 2
  | .atNn _ => 4
  | .atHighN _ => 3
  | .atHighC => 2

/-- M-cycles of a CB-space instruction (R350). -/
def cbCycles : CbForm → Nat
  | .rot _ (.reg _) => 2
  | .rot _ .atHL => 4
  | .bit _ (.reg _) => 2
  | .bit _ .atHL => 3
  | .res _ (.reg _) => 2
  | .res _ .atHL => 4
  | .set _ (.reg _) => 2
  | .set _ .atHL => 4

/-- The M-cycles of an instruction, the fetches included (R350, informative); a conditional form's count depends on the
flags. The prefix row is no instruction (R276); it is given the one M-cycle of its own fetch. -/
def mcycles (f : Form) (fl : Flags) : Nat :=
  match f with
  | .nop => 1
  | .halt => 1
  | .stop => 1
  | .di => 1
  | .ei => 1
  | .invalid _ => 1
  | .cbPrefix => 1
  | .ldRegReg _ _ => 1
  | .ldRegImm _ _ => 2
  | .ldRegAtHL _ => 2
  | .ldAtHLReg _ => 2
  | .ldAtHLImm _ => 3
  | .loadA m => accModeCycles m
  | .storeA m => accModeCycles m
  | .ldPairImm _ _ => 3
  | .ldAtNnSP _ => 5
  | .ldSPHL => 2
  | .push _ => 4
  | .pop _ => 3
  | .ldHLSPe _ => 3
  | .alu _ (.reg _) => 1
  | .alu _ .atHL => 2
  | .alu _ (.imm _) => 2
  | .incReg _ => 1
  | .incAtHL => 3
  | .decReg _ => 1
  | .decAtHL => 3
  | .daa => 1
  | .cpl => 1
  | .scf => 1
  | .ccf => 1
  | .addHL _ => 2
  | .incPair _ => 2
  | .decPair _ => 2
  | .addSPe _ => 4
  | .rlca => 1
  | .rrca => 1
  | .rla => 1
  | .rra => 1
  | .cb c => cbCycles c
  | .jp _ => 4
  | .jpCond cc _ => bif fl.cond cc then 4 else 3
  | .jpHL => 1
  | .jr _ => 3
  | .jrCond cc _ => bif fl.cond cc then 3 else 2
  | .call _ => 6
  | .callCond cc _ => bif fl.cond cc then 6 else 3
  | .ret => 4
  | .retCond cc => bif fl.cond cc then 5 else 2
  | .reti => 4
  | .rst _ => 4

end Sys2Proof.Machine
end

