-- ==== Sys2Proof/Machine/Advance.lean ====
section
/-! DEFINITION. The whole-instruction function of R121, the environment's transitions of R325, and the step that follows
the schedule. -/

namespace Sys2Proof.Machine

/-- The byte at `PC`. -/
def State.opcodeByte (s : State) : Byte := Memory.read s.mem s.pc

/-- The instruction at `PC` (R116): what the decoder reads from the bytes there. -/
def State.instrAt (s : State) : Instr :=
  decode3 s.opcodeByte (Memory.read s.mem (s.pc + 1)) (Memory.read s.mem (s.pc + 2))

/-- How many of an instruction's bytes are fetched: all, but one of the two of `STOP` (R351, R272). -/
def fetchCount (b0 : Byte) : Nat := bif b0 == Config.stopByte then 1 else lengthOf b0

/-- The same with the parameter `INVALID_OPCODES`: of an invalid opcode the one byte is fetched (R275). -/
def fetchCountWith (invalidOpcodes : List Byte) (b0 : Byte) : Nat :=
  bif b0 == Config.stopByte then 1 else lengthWith invalidOpcodes b0

/-- The behaviour at `PC` with the parameter `INVALID_OPCODES` (R114, R116). -/
def State.behaviourAt (invalidOpcodes : List Byte) (s : State) : Behaviour :=
  behaviourOf invalidOpcodes s.opcodeByte (Memory.read s.mem (s.pc + 1)) (Memory.read s.mem (s.pc + 2))

/-- Run a behaviour: its row of the table where it has one, else the invalid-opcode behaviour of its byte (R275). -/
def runBehaviour (b : Behaviour) (s : State) : Result :=
  match b with
  | .form f => Machine.exec (instrOf f) s
  | .invalid op =>
    match invalidRow op with
    | some k => Machine.exec (instrOf (.invalid k)) s
    | none => .next (invalidOpcode op s).run

/-- The whole-instruction view of an advance (R121) with the parameters `p`: if `faulted`, identity; else if `halted`, one
idle M-cycle; else fetch, decode and run to the end. -/
def advanceWith (p : Config.Params) (s : State) : Result :=
  bif s.faulted then .next s
  else bif s.halted then .next s.afterInternal
  else runBehaviour (s.behaviourAt p.invalidOpcodes) (s.fetched (fetchCountWith p.invalidOpcodes s.opcodeByte))

/-- The whole-instruction view of an advance, with the defaults of R4. -/
def advance (s : State) : Result := advanceWith Config.params s

/-- One entry of the schedule (R325) with the parameters `p`. A dispatch or a wake-up that is not enabled is
refused by name (I13). -/
def transitionWith (p : Config.Params) (e : EnvEvent) (s : State) : Result :=
  match e with
  | .core => advanceWith p s
  | .int v => bif s.dispatchEnabled then .next (s.dispatch v).run else .refused .dispatchNotEnabled
  | .wake => bif s.wakeEnabled then .next s.wake else .refused .wakeNotEnabled
  | .mem a v => .next (s.agentWrite a v)
  | .dbg w => .next (s.accessorWrite w)
  | .reset => .next (s.resetCoreWith p)

/-- One entry of the schedule, with the defaults of R4. -/
def transition (e : EnvEvent) (s : State) : Result := transitionWith Config.params e s

/-- The next entry of the schedule, with the parameters `p`; with nothing scheduled, CORE runs. -/
def scheduledStepWith (p : Config.Params) (s : State) : Result :=
  match s.env with
  | [] => advanceWith p s
  | e :: rest => transitionWith p e { s with env := rest }

/-- The next entry of the schedule, with the defaults of R4. -/
def scheduledStep (s : State) : Result := scheduledStepWith Config.params s

/-- Place bytes at ascending addresses (R70). -/
def placeBytes (m : Memory) (a : Word) : List Byte → Memory
  | [] => m
  | b :: bs => placeBytes (Memory.write m a b) (a + 1) bs

/-- The state with the instruction of a table word at `PC`, made ready to fetch: CORE neither halted nor faulted, nothing
scheduled before it (log 10). -/
def State.withInstrAtPC (s : State) (nbits w : Nat) : State :=
  { s with mem := placeBytes s.mem s.pc (tableBytes nbits w), halted := false, faulted := false, env := [] }

end Sys2Proof.Machine
end

