-- ==== Sys2Proof/Machine/Driver.lean ====
section
/-! DEFINITION. The fetch-execute driver, one M-cycle per advance (R107 to R120), for claims about what other agents see
between two M-cycles (R36, R60). The whole-instruction `step` is this driver run from `Idle` to `Idle`. -/

namespace Sys2Proof.Machine

/-- The fetch and the work of the next instruction (R116) with the parameters `p`: `M1` reads the opcode, the prefix makes
`M2` read `cbop`, then the immediates, low byte first, then the instruction's own work. -/
def State.instrWorkWith (p : Config.Params) (s : State) : Work :=
  s.fetching fun op s =>
    bif op == Config.cbPrefixByte then s.fetching fun cbop s => formWork (.cb (cbFormOf cbop)) s
    else bif p.invalidOpcodes.contains op then invalidOpcode op s
    else match fetchCount op with
      | 3 => s.fetching fun b1 s => s.fetching fun b2 s => formWork (plainForm op b1 b2) s
      | 2 => s.fetching fun b1 s => formWork (plainForm op b1 0) s
      | _ => formWork (plainForm op 0 0) s

/-- The fetch and the work of the next instruction, with the defaults of R4. -/
def State.instrWork (s : State) : Work := s.instrWorkWith Config.params

/-- The machine at M-cycle granularity: the driver's two states (R32, R115). -/
inductive Clocked
  /-- `Idle`: no instruction in flight. -/
  | idle (s : State)
  /-- `Executing`: `n` is the number of the next cycle to perform, `w` the work still to do. -/
  | executing (n : Nat) (w : Work)

/-- After an M-cycle: `retired = true` (back to `Idle`) when no work is left, else on to cycle `n` (R107, R117). -/
def settle (n : Nat) (w : Work) : Clocked :=
  match w with
  | .done s => .idle s
  | .read s a k => .executing n (.read s a k)
  | .write s a v k => .executing n (.write s a v k)
  | .internal s k => .executing n (.internal s k)

/-- The outcome of an M-cycle. -/
abbrev ClockedResult := Host.Outcome Clocked Fault Refusal

/-- `step(cycle_number, ...)` of the instruction in flight (R107): a cycle number other than the next one, or a call after
retirement, is the protocol violation (R112, R302). -/
def cycleStep (cycle n : Nat) (w : Work) : ClockedResult :=
  match w with
  | .done _ => .fault .protocolViolation
  | .read s a k => bif cycle == n then .next (settle (n + 1) (Work.read s a k).perform) else .fault .protocolViolation
  | .write s a v k => bif cycle == n then .next (settle (n + 1) (Work.write s a v k).perform) else .fault .protocolViolation
  | .internal s k => bif cycle == n then .next (settle (n + 1) (Work.internal s k).perform) else .fault .protocolViolation

/-- One advance of the driver with the parameters `p`: one M-cycle (R115 to R119). -/
def Clocked.advanceWith (p : Config.Params) (c : Clocked) : ClockedResult :=
  match c with
  | .idle s =>
    bif s.faulted then .next (.idle s)
    else bif s.halted then .next (.idle s.afterInternal)
    else cycleStep 1 1 (s.instrWorkWith p)
  | .executing n w => cycleStep n n w

/-- One advance of the driver, with the defaults of R4. -/
def Clocked.advance (c : Clocked) : ClockedResult := Clocked.advanceWith Config.params c

/-- An `Idle` driver with the state a step answers. -/
def idleResult (r : Result) : ClockedResult :=
  match r with
  | .next s => .next (.idle s)
  | .fault f => .fault f
  | .refused q => .refused q

/-- One entry of a schedule at M-cycle granularity (R325), with the parameters `p`: CORE's turn is one advance.
While an instruction is in flight another agent may change memory and a reset may come; a dispatch, a wake-up or an
accessor write may not, and is refused by name (I12). -/
def Clocked.transitionWith (p : Config.Params) (e : EnvEvent) (c : Clocked) : ClockedResult :=
  match c with
  | .idle s =>
    match e with
    | .core => Clocked.advanceWith p (.idle s)
    | .int v => idleResult (Machine.transitionWith p (.int v) s)
    | .wake => idleResult (Machine.transitionWith p .wake s)
    | .mem a v => idleResult (Machine.transitionWith p (.mem a v) s)
    | .dbg w => idleResult (Machine.transitionWith p (.dbg w) s)
    | .reset => idleResult (Machine.transitionWith p .reset s)
  | .executing n w =>
    match e with
    | .core => Clocked.advanceWith p (.executing n w)
    | .int _ => .refused .driverExecuting
    | .wake => .refused .driverExecuting
    | .mem a v => .next (.executing n (w.onState fun s => s.agentWrite a v))
    | .dbg _ => .refused .driverExecuting
    | .reset => .next (.idle (w.state.resetCoreWith p))

/-- One entry of a schedule at M-cycle granularity, with the defaults of R4. -/
def Clocked.transition (e : EnvEvent) (c : Clocked) : ClockedResult := Clocked.transitionWith Config.params e c

/-- `k` advances of the driver. -/
def Clocked.advances : Nat → Clocked → ClockedResult
  | 0, c => .next c
  | k + 1, c =>
    match c.advance with
    | .next c' => Clocked.advances k c'
    | .fault f => .fault f
    | .refused q => .refused q

end Sys2Proof.Machine
end

