-- ==== Sys2Proof/Safety.lean ====
section
/-! DEFINITION. What a safe run is, the machine's invariant, and the terms in which claims speak of one instruction: its
bytes, its M-cycles, and what it leaves unchanged. -/

namespace Sys2Proof.Safety

open Sys2Proof.Machine

/-! ## Runs -/

/-- CORE executes at the next step: no fault (R119), not waiting (R118), nothing scheduled by the environment. -/
def Running (s : State) : Prop := s.faulted = false ∧ s.halted = false ∧ s.env = []

/-- A safe run of `k` steps: every step answers a next state, and no fault is taken on the way (R301). -/
def SafeFor : Nat → State → Prop
  | 0, s => s.faulted = false
  | k + 1, s => s.faulted = false ∧ ∃ t, step s = .next t ∧ SafeFor k t

/-- The schedule dispatches to the platform's vectors `INT_VECTORS` alone (R325, R308): for claims about a platform. -/
def PlatformSchedule (p : Config.Params) (l : List EnvEvent) : Prop := ∀ v, .int v ∈ l → v ∈ p.intVectors

/-- The machine's invariant: memory in canonical form; bits 3:0 of `F` zero as stored (R24). -/
structure Inv (s : State) : Prop where
  memory : Memory.wf s.mem = true
  lowNibble : lo s.af &&& 0x0F = 0

/-! ## One instruction -/

/-- The instruction `i` is these bytes: the encoder writes them, and the decoder reads them back, whatever follows. -/
def Encoded (bytes : List Byte) (i : Instr) : Prop :=
  encode i = bytes ∧ ∀ rest, decode (bytes ++ rest) = .ok (i, rest)

/-- `i`, its bytes fetched, retires from `s` in `t`; the M-cycles after the fetch are `ms`, in the order of time. -/
def Retires (i : Instr) (s t : State) (ms : List MCycle) : Prop :=
  exec i s = .next t ∧ t.cycles = ms.reverse ++ s.cycles

/-- What an instruction may change. -/
structure Changes where
  /-- Registers. -/
  regs : List Reg8 := []
  /-- The four flags. -/
  flags : Bool := false
  sp : Bool := false
  pc : Bool := false
  ime : Bool := false
  halted : Bool := false
  /-- `faulted` and `fault_opcode`. -/
  fault : Bool := false
  /-- The addresses stored to. -/
  stores : List Word := []

/-- Everything but `c` is as before: every register, the whole of `F`, `SP`, `PC`, the latches, the fault latch and its
byte, every byte of memory, the schedule. -/
structure KeptBut (c : Changes) (s t : State) : Prop where
  regs : ∀ r, r ∉ c.regs → t.r8 r = s.r8 r
  flags : c.flags = false → t.f = s.f
  sp : c.sp = false → t.sp = s.sp
  pc : c.pc = false → t.pc = s.pc
  ime : c.ime = false → t.ime = s.ime
  halted : c.halted = false → t.halted = s.halted
  fault : c.fault = false → t.faulted = s.faulted ∧ t.faultOpcode = s.faultOpcode
  memory : ∀ a, a ∉ c.stores → Memory.read t.mem a = Memory.read s.mem a
  schedule : t.env = s.env

/-- What a write through an accessor may change (R22, R37). -/
def accessorChanges : AccessorWrite → Changes
  | .reg16 .AF _ => { regs := [.A], flags := true }
  | .reg16 .BC _ => { regs := [.B, .C] }
  | .reg16 .DE _ => { regs := [.D, .E] }
  | .reg16 .HL _ => { regs := [.H, .L] }
  | .reg16 .SP _ => { sp := true }
  | .reg16 .PC _ => { pc := true }
  | .reg8 .A _ => { regs := [.A] }
  | .reg8 .F _ => { flags := true }
  | .reg8 .B _ => { regs := [.B] }
  | .reg8 .C _ => { regs := [.C] }
  | .reg8 .D _ => { regs := [.D] }
  | .reg8 .E _ => { regs := [.E] }
  | .reg8 .H _ => { regs := [.H] }
  | .reg8 .L _ => { regs := [.L] }
  | .flag _ _ => { flags := true }
  | .ime _ => { ime := true }
  | .halted _ => { halted := true }

/-- The registers a pair is made of. -/
def pairRegs : Pair → List Reg8
  | .BC => [.B, .C]
  | .DE => [.D, .E]
  | .HL => [.H, .L]
  | .SP => []

/-- The registers a pair of the stack instructions is made of; the low half of `AF` is the flags. -/
def stackPairRegs : StackPair → List Reg8
  | .BC => [.B, .C]
  | .DE => [.D, .E]
  | .HL => [.H, .L]
  | .AF => [.A]

/-- The value of the right operand of an accumulator operation (R175). -/
def aluOperand (x : AluSrc) (s : State) : Byte :=
  match x with
  | .reg r => s.r8 r
  | .atHL => Memory.read s.mem s.hl
  | .imm n => n

/-- The M-cycles spent on the right operand after the fetch (R175). -/
def aluReads (x : AluSrc) (s : State) : List MCycle :=
  match x with
  | .reg _ => []
  | .atHL => [.read s.hl (Memory.read s.mem s.hl)]
  | .imm _ => []

/-- The bytes of an accumulator operation of row `y` of the `alu` table (R175). -/
def aluBytes (y : BitVec 3) (x : AluSrc) : List Byte :=
  match x with
  | .reg r => [opXYZ 0b10 y (regIndex r)]
  | .atHL => [opXYZ 0b10 y 0b110]
  | .imm n => [opXYZ 0b11 y 0b110, n]

/-- The rotates and shifts of R220, by the operations of BitVec; `rl` and `rr` as rotations of nine bits. -/
def rotSpec (op : RotOp) (x : Byte) (cin : Bool) : Byte × Bool :=
  match op with
  | .rlc => (x.rotateLeft 1, x.msb)
  | .rrc => (x.rotateRight 1, x.getLsbD 0)
  | .rl => ((x ++ BitVec.ofBool cin).setWidth 8, x.msb)
  | .rr => (((BitVec.ofBool cin ++ x) >>> 1).setWidth 8, x.getLsbD 0)
  | .sla => (x <<< 1, x.msb)
  | .sra => (x.sshiftRight 1, x.getLsbD 0)
  | .swap => (x.rotateLeft 4, false)
  | .srl => (x >>> 1, x.getLsbD 0)

/-- The byte with bit `k` made `b` and every other bit kept. -/
def BitSetTo (k : Nat) (b : Bool) (x y : Byte) : Prop :=
  ∀ j, j < 8 → y.getLsbD j = if j = k then b else x.getLsbD j

/-- The forms that write flags: all rows of the table of R39 but the last. -/
def writesFlags : Form → Bool
  | .alu _ _ => true
  | .incReg _ => true
  | .incAtHL => true
  | .decReg _ => true
  | .decAtHL => true
  | .daa => true
  | .cpl => true
  | .scf => true
  | .ccf => true
  | .addHL _ => true
  | .addSPe _ => true
  | .ldHLSPe _ => true
  | .rlca => true
  | .rrca => true
  | .rla => true
  | .rra => true
  | .cb (.rot _ _) => true
  | .cb (.bit _ _) => true
  | .cb (.res _ _) => false
  | .cb (.set _ _) => false
  | .pop .AF => true
  | .pop _ => false
  | .cbPrefix => true
  | .nop => false
  | .halt => false
  | .stop => false
  | .di => false
  | .ei => false
  | .invalid _ => false
  | .ldRegReg _ _ => false
  | .ldRegImm _ _ => false
  | .ldRegAtHL _ => false
  | .ldAtHLReg _ => false
  | .ldAtHLImm _ => false
  | .loadA _ => false
  | .storeA _ => false
  | .ldPairImm _ _ => false
  | .ldAtNnSP _ => false
  | .ldSPHL => false
  | .push _ => false
  | .incPair _ => false
  | .decPair _ => false
  | .jp _ => false
  | .jpCond _ _ => false
  | .jpHL => false
  | .jr _ => false
  | .jrCond _ _ => false
  | .call _ => false
  | .callCond _ _ => false
  | .ret => false
  | .retCond _ => false
  | .reti => false
  | .rst _ => false

/-- The control-transfer instructions (R250). -/
def transfersControl : Form → Bool
  | .jp _ => true
  | .jpCond _ _ => true
  | .jpHL => true
  | .jr _ => true
  | .jrCond _ _ => true
  | .call _ => true
  | .callCond _ _ => true
  | .ret => true
  | .retCond _ => true
  | .reti => true
  | .rst _ => true
  | _ => false

/-! ## The trace -/

/-- The memory after a list of M-cycles, in the order of time, if each read returned what memory held at its time. -/
def replay (m : Memory) : List MCycle → Option Memory
  | [] => some m
  | .read a v :: ms => if Memory.read m a = v then replay m ms else none
  | .write a v :: ms => replay (Memory.write m a v) ms
  | .internal :: ms => replay m ms

end Sys2Proof.Safety
end

