-- ==== Sys2Proof/Certificates/Slice0/Obligations.lean ====
section
/-! DEFINITION. The statements about the machine, from the numbered rules of `spec/`. `Encoded`, `Retires`, `KeptBut` and
the other terms are those of Safety.lean. -/

open Sys2Proof Sys2Proof.Machine Sys2Proof.Safety

/-! ## Reset and the invariant -/

/-- R38, R340, R341: the state after reset. The numbers are the spec's decision D2, and `fault_opcode` is not named. -/
def Obligations.ResetLeavesTheHandOverState : Prop :=
  State.reset.af = 0x01B0 ∧ State.reset.bc = 0x0013 ∧ State.reset.de = 0x00D8 ∧ State.reset.hl = 0x014D
    ∧ State.reset.sp = 0xFFFE ∧ State.reset.pc = 0x0100 ∧ State.reset.ime = false ∧ State.reset.halted = false
    ∧ State.reset.faulted = false ∧ State.reset.flags = { z := true, n := false, h := true, c := true }

/-- R340, R342: a reset from any state, faulted and halted ones too, gives every register and latch its reset value,
makes no bus access and leaves memory alone. -/
def Obligations.ResetOverridesEveryState : Prop :=
  ∀ (s : State) (rest : List EnvEvent), s.env = .reset :: rest →
    ∃ t, step s = .next t ∧ t.af = 0x01B0 ∧ t.bc = 0x0013 ∧ t.de = 0x00D8 ∧ t.hl = 0x014D ∧ t.sp = 0xFFFE
      ∧ t.pc = 0x0100 ∧ t.ime = false ∧ t.halted = false ∧ t.faulted = false ∧ t.mem = s.mem ∧ t.cycles = s.cycles
      ∧ t.env = rest

/-- The invariant of Safety.lean holds after reset. -/
def Obligations.ResetMeetsTheInvariant : Prop := Inv State.reset

/-- R24, and the canonical form of memory: every step, of CORE or of the environment, keeps the invariant. -/
def Obligations.EveryStepKeepsTheInvariant : Prop :=
  ∀ s t : State, Inv s → step s = .next t → Inv t

/-! ## Encoding -/

/-- Decoding an encoded instruction gives it back, with every operand at every value, and leaves what follows. -/
def Obligations.DecodeOfEncodeIsTheInstruction : Prop :=
  ∀ (i : Instr) (rest : List Byte), i.wf = true → decode (encode i ++ rest) = .ok (i, rest)

/-- What is decoded is well formed, and encoding it gives the bytes back; only the second byte of `STOP`, which has no
effect (R272), is lost. -/
def Obligations.EncodeOfDecodeIsTheBytes : Prop :=
  ∀ (bs rest : List Byte) (i : Instr), decode bs = .ok (i, rest) →
    i.wf = true ∧ (i ≠ .stop → encode i ++ rest = bs)

/-- R82: exactly the eleven listed first bytes decode to the invalid-opcode behaviour, and each is one byte long. -/
def Obligations.InvalidOpcodesAreTheEleven : Prop :=
  ∀ b0 b1 b2 : Byte,
    ((∃ k, decode3 b0 b1 b2 = instrOf (.invalid k)) ↔
        b0 ∈ [0xD3, 0xDB, 0xDD, 0xE3, 0xE4, 0xEB, 0xEC, 0xED, 0xF4, 0xFC, 0xFD])
      ∧ (∀ k, decode3 b0 b1 b2 = instrOf (.invalid k) → invalidByte k = b0 ∧ lengthOf b0 = 1)

/-- R73, R81: after the prefix the byte in second place selects a CB-space instruction whatever it is, `CB` and the
values of R82 too, and the instruction is two bytes long. -/
def Obligations.PrefixSelectsTheCbSpace : Prop :=
  ∀ (cbop : Byte) (rest : List Byte), ∃ c, decode (0xCB :: cbop :: rest) = .ok (instrOf (.cb c), rest)
    ∧ encodeCb c = cbop

/-- A few words, written out from the "Encoding" lines of R131, R132, R161, R164, R178, R241, R252, R255, R261, R272. -/
def Obligations.WrittenOutWordsDecode : Prop :=
  decode [0b01000001] = .ok (.ld_B_C, []) ∧ decode [0b00111110, 0x42] = .ok (.ld_A_n 0x42, [])
    ∧ decode [0b00100001, 0x5B, 0x3A] = .ok (.ld_HL_nn 0x3A5B, []) ∧ decode [0b11010101] = .ok (.push_DE, [])
    ∧ decode [0b11000110, 0xFF] = .ok (.add_A_n 0xFF, []) ∧ decode [0b11001011, 0b01111111] = .ok (.bit_7_A, [])
    ∧ decode [0b11000010, 0x00, 0x80] = .ok (.jp_NZ_nn 0x8000, []) ∧ decode [0b00111000, 0x80] = .ok (.jr_C_e 0x80, [])
    ∧ decode [0b11101111] = .ok (.rst_28, []) ∧ decode [0b00010000, 0x3C] = .ok (.stop, [])

/-! ## The step -/

/-- R116, R121: when CORE runs and the bytes at `PC` decode to `i`, a step fetches its bytes and is `exec i` there. -/
def Obligations.StepRunsTheDecodedInstruction : Prop :=
  ∀ (s : State) (i : Instr) (rest : List Byte), Running s →
    decode [Memory.read s.mem s.pc, Memory.read s.mem (s.pc + 1), Memory.read s.mem (s.pc + 2)] = .ok (i, rest) →
    i.wf = true ∧ step s = exec i (s.fetched (fetchCount (Memory.read s.mem s.pc)))

/-- R27, R26, R54: `n` fetches read `n` bytes at ascending addresses, modulo 65,536, advance `PC` past them, and change
nothing else. -/
def Obligations.FetchReadsAscendingBytes : Prop :=
  ∀ (n : Nat) (s : State),
    (s.fetched n).pc = s.pc + BitVec.ofNat 16 n ∧ KeptBut { pc := true } s (s.fetched n)
      ∧ (s.fetched n).mem = s.mem
      ∧ (s.fetched n).cycles =
          ((List.range n).map fun k =>
            MCycle.read (s.pc + BitVec.ofNat 16 k) (Memory.read s.mem (s.pc + BitVec.ofNat 16 k))).reverse ++ s.cycles

/-- R27: an instruction that transfers no control ends with `PC` past its bytes (`STOP`'s unread byte too); an invalid
opcode likewise, not rewound (R275). -/
def Obligations.SequentialInstructionsPassTheirBytes : Prop :=
  ∀ s : State, Running s → transfersControl (formOf s.instrAt) = false →
    ∃ t, step s = .next t ∧ t.pc = s.pc + BitVec.ofNat 16 (lengthOf (Memory.read s.mem s.pc))

/-- R350, R351: the M-cycles of a step of CORE number `mcycles`, on the flags at its start. The table of R350 is the
spec's decision D14. -/
def Obligations.StepTakesTheTableMCycles : Prop :=
  ∀ s : State, Running s →
    ∃ t ms, step s = .next t ∧ t.cycles = ms ++ s.cycles ∧ ms.length = mcycles (formOf s.instrAt) s.flags

/-- R57, R60: the M-cycles of a turn of CORE, in order, are its memory accesses: every read returned what memory held
at that M-cycle, and memory afterwards is what the writes, in order, made of it. That memory behaves as RAM within the
turn is the model's choice, log 4. -/
def Obligations.TraceReplaysToMemory : Prop :=
  ∀ s : State, ∃ t ms, advance s = .next t ∧ t.cycles = ms.reverse ++ s.cycles ∧ replay s.mem ms = some t.mem

/-- Every instruction completes, from every state; `IME` is written by `DI`, `EI`, `RETI` alone (R29), `halted` by `HALT`
and `STOP` alone (R30), the fault latch by the invalid opcodes alone (R301). -/
def Obligations.LatchesHaveOnlyTheirWriters : Prop :=
  ∀ (i : Instr) (s : State), ∃ t, exec i s = .next t
    ∧ (i ≠ .di → i ≠ .ei → i ≠ .reti → t.ime = s.ime)
    ∧ (i ≠ .halt → i ≠ .stop → t.halted = s.halted)
    ∧ ((∀ k, formOf i ≠ .invalid k) → t.faulted = s.faulted ∧ t.faultOpcode = s.faultOpcode)
    ∧ t.env = s.env

/-- R39, its last row: an instruction that is in no other row of the table leaves `F` unchanged. -/
def Obligations.OtherInstructionsKeepTheFlags : Prop :=
  ∀ (i : Instr) (s : State), writesFlags (formOf i) = false → ∃ t, exec i s = .next t ∧ t.f = s.f

/-! ## 8-bit loads -/

/-- R131 `LD r,r'`, all 49 constructors `ld_B_B` to `ld_A_A`, and R132 `LD r,n`, the 7 constructors `ld_B_n` to `ld_A_n`. -/
def Obligations.LoadRegisterFromRegisterOrImmediate : Prop :=
  ∀ (d r : Reg8) (n : Byte) (s : State),
    (Encoded [opXYZ 0b01 (regIndex d) (regIndex r)] (instrOf (.ldRegReg d r))
      ∧ ∃ t, Retires (instrOf (.ldRegReg d r)) s t [] ∧ t.r8 d = s.r8 r ∧ KeptBut { regs := [d] } s t)
    ∧ (Encoded [opXYZ 0b00 (regIndex d) 0b110, n] (instrOf (.ldRegImm d n))
      ∧ ∃ t, Retires (instrOf (.ldRegImm d n)) s t [] ∧ t.r8 d = n ∧ KeptBut { regs := [d] } s t)

/-- R133 `LD r,(HL)`, the 7 constructors `ld_B_atHL` to `ld_A_atHL`; the address is the old `HL`. -/
def Obligations.LoadRegisterFromMemory : Prop :=
  ∀ (d : Reg8) (s : State),
    Encoded [opXYZ 0b01 (regIndex d) 0b110] (instrOf (.ldRegAtHL d))
      ∧ ∃ t, Retires (instrOf (.ldRegAtHL d)) s t [.read s.hl (Memory.read s.mem s.hl)]
        ∧ t.r8 d = Memory.read s.mem s.hl ∧ KeptBut { regs := [d] } s t

/-- R134 `LD (HL),r`, the 7 constructors `ld_atHL_B` to `ld_atHL_A`, and R135 `LD (HL),n`, `ld_atHL_n`. That
the byte reads back as stored is log 4 (memory as RAM, R57). -/
def Obligations.StoreRegisterOrImmediateAtHL : Prop :=
  ∀ (r : Reg8) (n : Byte) (s : State),
    (Encoded [opXYZ 0b01 0b110 (regIndex r)] (instrOf (.ldAtHLReg r))
      ∧ ∃ t, Retires (instrOf (.ldAtHLReg r)) s t [.write s.hl (s.r8 r)]
        ∧ Memory.read t.mem s.hl = s.r8 r ∧ KeptBut { stores := [s.hl] } s t)
    ∧ (Encoded [0x36, n] (instrOf (.ldAtHLImm n))
      ∧ ∃ t, Retires (instrOf (.ldAtHLImm n)) s t [.write s.hl n]
        ∧ Memory.read t.mem s.hl = n ∧ KeptBut { stores := [s.hl] } s t)

/-- R136, R137, R140, R142, R144, R146, R148: the 7 constructors that load `A` from memory, `ld_A_atBC`, `ld_A_atDE`,
`ld_A_atNn`, `ldh_A_atC`, `ldh_A_atN`, `ld_A_atHLdec`, `ld_A_atHLinc`; and R150: the addresses, `n` and `C` zero-extended. -/
def Obligations.LoadAccumulatorFromMemory : Prop :=
  ∀ (m : AccMode) (s : State),
    Encoded
      (match m with
        | .atBC => [0x0A]
        | .atDE => [0x1A]
        | .atHLinc => [0x2A]
        | .atHLdec => [0x3A]
        | .atNn nn => [0xFA, lo nn, hi nn]
        | .atHighN n => [0xF0, n]
        | .atHighC => [0xF2])
      (instrOf (.loadA m))
    ∧ (s.accAddr m).toNat = (match m with
        | .atBC => (mk16 (s.r8 .B) (s.r8 .C)).toNat
        | .atDE => (mk16 (s.r8 .D) (s.r8 .E)).toNat
        | .atHLinc => (mk16 (s.r8 .H) (s.r8 .L)).toNat
        | .atHLdec => (mk16 (s.r8 .H) (s.r8 .L)).toNat
        | .atNn nn => nn.toNat
        | .atHighN n => 0xFF00 + n.toNat
        | .atHighC => 0xFF00 + (s.r8 .C).toNat)
    ∧ ∃ t, Retires (instrOf (.loadA m)) s t [.read (s.accAddr m) (Memory.read s.mem (s.accAddr m))]
      ∧ t.r8 .A = Memory.read s.mem (s.accAddr m)
      ∧ t.hl = (match m with
        | .atHLinc => s.hl + 1
        | .atHLdec => s.hl - 1
        | _ => s.hl)
      ∧ KeptBut { regs := [.A, .H, .L] } s t

/-- R138, R139, R141, R143, R145, R147, R149: the 7 constructors that store `A` to memory, `ld_atBC_A`, `ld_atDE_A`,
`ld_atNn_A`, `ldh_atC_A`, `ldh_atN_A`, `ld_atHLdec_A`, `ld_atHLinc_A`. That `A` reads back at the address is log 4 (memory
as RAM, R57). -/
def Obligations.StoreAccumulatorToMemory : Prop :=
  ∀ (m : AccMode) (s : State),
    Encoded
      (match m with
        | .atBC => [0x02]
        | .atDE => [0x12]
        | .atHLinc => [0x22]
        | .atHLdec => [0x32]
        | .atNn nn => [0xEA, lo nn, hi nn]
        | .atHighN n => [0xE0, n]
        | .atHighC => [0xE2])
      (instrOf (.storeA m))
    ∧ ∃ t, Retires (instrOf (.storeA m)) s t [.write (s.accAddr m) (s.r8 .A)]
      ∧ Memory.read t.mem (s.accAddr m) = s.r8 .A
      ∧ t.hl = (match m with
        | .atHLinc => s.hl + 1
        | .atHLdec => s.hl - 1
        | _ => s.hl)
      ∧ KeptBut { regs := [.H, .L], stores := [s.accAddr m] } s t

/-! ## 16-bit loads and the stack -/

/-- R161 `LD rr,nn`, the 4 constructors `ld_BC_nn` to `ld_SP_nn`, and R163 `LD SP,HL`, `ld_SP_HL`. -/
def Obligations.LoadPairOrStackPointer : Prop :=
  ∀ (p : Pair) (nn : Word) (s : State),
    (Encoded [opXPQZ 0b00 (pairIndex p) 0 0b001, lo nn, hi nn] (instrOf (.ldPairImm p nn))
      ∧ ∃ t, Retires (instrOf (.ldPairImm p nn)) s t [] ∧ t.pair p = nn
        ∧ KeptBut { regs := pairRegs p, sp := decide (p = .SP) } s t)
    ∧ (Encoded [0xF9] .ld_SP_HL
      ∧ ∃ t, Retires .ld_SP_HL s t [.internal] ∧ t.sp = mk16 (s.r8 .H) (s.r8 .L) ∧ KeptBut { sp := true } s t)

/-- R162 `LD (nn),SP`, `ld_atNn_SP`: the low byte at `nn`, the high byte at `nn + 1` modulo 65,536.
That both bytes read back as stored is log 4 (memory as RAM, R57). -/
def Obligations.StoreStackPointer : Prop :=
  ∀ (nn : Word) (s : State),
    Encoded [0x08, lo nn, hi nn] (instrOf (.ldAtNnSP nn))
      ∧ ∃ t, Retires (instrOf (.ldAtNnSP nn)) s t [.write nn (lo s.sp), .write (nn + 1) (hi s.sp)]
        ∧ Memory.read t.mem nn = lo s.sp ∧ Memory.read t.mem (nn + 1) = hi s.sp
        ∧ KeptBut { stores := [nn, nn + 1] } s t

/-- R164 `PUSH rr`, the 4 constructors `push_BC`, `push_DE`, `push_HL`, `push_AF`: the high byte is written first, at
`SP - 1`, then the low byte, at `SP - 2`; what is pushed for `F` has bits 3:0 zero (R24). That both bytes read back as
pushed is log 4 (memory as RAM, R57, R160). -/
def Obligations.PushWritesTheStack : Prop :=
  ∀ (q : StackPair) (s : State),
    Encoded [opXPQZ 0b11 (stackPairIndex q) 0 0b101] (instrOf (.push q))
      ∧ ∃ t, Retires (instrOf (.push q)) s t
          [.internal, .write (s.sp - 1) (hi (s.stackPair q)), .write (s.sp - 2) (lo (s.stackPair q))]
        ∧ t.sp = s.sp - 2
        ∧ Memory.read t.mem (s.sp - 1) = hi (s.stackPair q) ∧ Memory.read t.mem (s.sp - 2) = lo (s.stackPair q)
        ∧ (q = .AF → hi (s.stackPair q) = s.r8 .A ∧ lo (s.stackPair q) = s.f ∧ s.f &&& 0x0F = 0)
        ∧ KeptBut { sp := true, stores := [s.sp - 1, s.sp - 2] } s t

/-- R165 `POP rr`, the 4 constructors `pop_BC`, `pop_DE`, `pop_HL`, `pop_AF`: the low byte is read first; `POP AF` takes
the flags from bits 7 to 4 of the low byte and drops bits 3:0. -/
def Obligations.PopReadsTheStack : Prop :=
  ∀ (q : StackPair) (s : State),
    let l := Memory.read s.mem s.sp
    let h := Memory.read s.mem (s.sp + 1)
    Encoded [opXPQZ 0b11 (stackPairIndex q) 0 0b001] (instrOf (.pop q))
      ∧ ∃ t, Retires (instrOf (.pop q)) s t [.read s.sp l, .read (s.sp + 1) h]
        ∧ t.sp = s.sp + 2
        ∧ hi (t.stackPair q) = h ∧ lo (t.stackPair q) = (if q = .AF then l &&& 0xF0 else l)
        ∧ (q = .AF → t.r8 .A = h ∧ t.f = l &&& 0xF0 ∧ t.flags.z = l.getLsbD 7 ∧ t.flags.n = l.getLsbD 6
            ∧ t.flags.h = l.getLsbD 5 ∧ t.flags.c = l.getLsbD 4)
        ∧ KeptBut { regs := stackPairRegs q, flags := decide (q = .AF), sp := true } s t

/-- R160: a push followed by a pop into any pair gives the value back, but for the low nibble that `AF` does not hold,
and restores `SP`. -/
def Obligations.PushThenPopRoundTrip : Prop :=
  ∀ (q q' : StackPair) (s : State), ∃ t u,
    exec (instrOf (.push q)) s = .next t ∧ exec (instrOf (.pop q')) t = .next u ∧ u.sp = s.sp
      ∧ u.stackPair q' = (if q' = .AF then s.stackPair q &&& 0xFFF0 else s.stackPair q)

/-- R166 `LD HL,SP+e`, `ld_HL_SPe`, and R214 `ADD SP,e`, `add_SP_e`: the sum with the sign-extended byte; the carries are
those of the low bytes, `e` unsigned (R105; decision D20), `Z` and `N` cleared. -/
def Obligations.StackPointerPlusDisplacement : Prop :=
  ∀ (e : Byte) (s : State),
    let fl : Flags :=
      { z := false, n := false, h := decide (s.sp.toNat % 16 + e.toNat % 16 > 15),
        c := decide (s.sp.toNat % 256 + e.toNat > 255) }
    (Encoded [0xF8, e] (instrOf (.ldHLSPe e))
      ∧ ∃ t, Retires (instrOf (.ldHLSPe e)) s t [.internal] ∧ t.hl = s.sp + e.signExtend 16 ∧ t.flags = fl
        ∧ KeptBut { regs := [.H, .L], flags := true } s t)
    ∧ (Encoded [0xE8, e] (instrOf (.addSPe e))
      ∧ ∃ t, Retires (instrOf (.addSPe e)) s t [.internal, .internal] ∧ t.sp = s.sp + e.signExtend 16 ∧ t.flags = fl
        ∧ KeptBut { sp := true, flags := true } s t)

/-! ## 8-bit arithmetic and logic -/

/-- R100 to R103: the carries of the four helpers are those of the integer sums and differences. -/
def Obligations.HelpersCarryAndBorrow : Prop :=
  ∀ (a b : Byte) (cin : Bool),
    add8 a b = { r := BitVec.ofNat 8 (a.toNat + b.toNat), h := decide (a.toNat % 16 + b.toNat % 16 > 15),
                 c := decide (a.toNat + b.toNat > 255) }
    ∧ adc8 a b cin =
        { r := BitVec.ofNat 8 (a.toNat + b.toNat + cin.toNat),
          h := decide (a.toNat % 16 + b.toNat % 16 + cin.toNat > 15),
          c := decide (a.toNat + b.toNat + cin.toNat > 255) }
    ∧ sub8 a b = { r := BitVec.ofInt 8 (a.toNat - b.toNat), h := decide (a.toNat % 16 < b.toNat % 16),
                   c := decide (a.toNat < b.toNat) }
    ∧ sbc8 a b cin =
        { r := BitVec.ofInt 8 (a.toNat - b.toNat - cin.toNat),
          h := decide (a.toNat % 16 < b.toNat % 16 + cin.toNat), c := decide (a.toNat < b.toNat + cin.toNat) }

/-- R176, R177, R178 `ADD A` and R179, R180, R181 `ADC A`: the 18 constructors `add_A_B` to `add_A_n`, `adc_A_B` to
`adc_A_n`. -/
def Obligations.AddToAccumulator : Prop :=
  ∀ (x : AluSrc) (s : State),
    let a := (s.r8 .A).toNat
    let v := (aluOperand x s).toNat
    let k := s.flags.c.toNat
    (Encoded (aluBytes 0 x) (instrOf (.alu .add x))
      ∧ ∃ t, Retires (instrOf (.alu .add x)) s t (aluReads x s) ∧ t.r8 .A = BitVec.ofNat 8 (a + v)
        ∧ t.flags = { z := decide ((a + v) % 256 = 0), n := false, h := decide (a % 16 + v % 16 > 15),
                      c := decide (a + v > 255) }
        ∧ KeptBut { regs := [.A], flags := true } s t)
    ∧ (Encoded (aluBytes 1 x) (instrOf (.alu .adc x))
      ∧ ∃ t, Retires (instrOf (.alu .adc x)) s t (aluReads x s) ∧ t.r8 .A = BitVec.ofNat 8 (a + v + k)
        ∧ t.flags = { z := decide ((a + v + k) % 256 = 0), n := false, h := decide (a % 16 + v % 16 + k > 15),
                      c := decide (a + v + k > 255) }
        ∧ KeptBut { regs := [.A], flags := true } s t)

/-- R182, R183, R184 `SUB` and R185, R186, R187 `SBC A`: the 18 constructors `sub_B` to `sub_n`, `sbc_A_B` to `sbc_A_n`.
R197, R198, R199 `CP`: the 9 constructors `cp_B` to `cp_n`; `A` is not written. `H` and `C` are borrows. -/
def Obligations.SubtractFromAccumulatorOrCompare : Prop :=
  ∀ (x : AluSrc) (s : State),
    let a := (s.r8 .A).toNat
    let v := (aluOperand x s).toNat
    let k := s.flags.c.toNat
    (Encoded (aluBytes 2 x) (instrOf (.alu .sub x))
      ∧ ∃ t, Retires (instrOf (.alu .sub x)) s t (aluReads x s) ∧ t.r8 .A = BitVec.ofInt 8 (a - v)
        ∧ t.flags = { z := decide (a = v), n := true, h := decide (a % 16 < v % 16), c := decide (a < v) }
        ∧ KeptBut { regs := [.A], flags := true } s t)
    ∧ (Encoded (aluBytes 3 x) (instrOf (.alu .sbc x))
      ∧ ∃ t, Retires (instrOf (.alu .sbc x)) s t (aluReads x s) ∧ t.r8 .A = BitVec.ofInt 8 (a - v - k)
        ∧ t.flags = { z := decide (BitVec.ofInt 8 (a - v - k) = 0), n := true, h := decide (a % 16 < v % 16 + k),
                      c := decide (a < v + k) }
        ∧ KeptBut { regs := [.A], flags := true } s t)
    ∧ (Encoded (aluBytes 7 x) (instrOf (.alu .cp x))
      ∧ ∃ t, Retires (instrOf (.alu .cp x)) s t (aluReads x s)
        ∧ t.flags = { z := decide (a = v), n := true, h := decide (a % 16 < v % 16), c := decide (a < v) }
        ∧ KeptBut { flags := true } s t)

/-- R188 to R196 `AND`, `XOR`, `OR`: the 27 constructors `and_B` to `or_n`, bit by bit. -/
def Obligations.LogicOnAccumulator : Prop :=
  ∀ (x : AluSrc) (s : State),
    let a := s.r8 .A
    let v := aluOperand x s
    (Encoded (aluBytes 4 x) (instrOf (.alu .and x))
      ∧ ∃ t, Retires (instrOf (.alu .and x)) s t (aluReads x s)
        ∧ (∀ j, (t.r8 .A).getLsbD j = (a.getLsbD j && v.getLsbD j))
        ∧ t.flags = { z := t.r8 .A == 0, n := false, h := true, c := false }
        ∧ KeptBut { regs := [.A], flags := true } s t)
    ∧ (Encoded (aluBytes 5 x) (instrOf (.alu .xor x))
      ∧ ∃ t, Retires (instrOf (.alu .xor x)) s t (aluReads x s)
        ∧ (∀ j, (t.r8 .A).getLsbD j = (a.getLsbD j != v.getLsbD j))
        ∧ t.flags = { z := t.r8 .A == 0, n := false, h := false, c := false }
        ∧ KeptBut { regs := [.A], flags := true } s t)
    ∧ (Encoded (aluBytes 6 x) (instrOf (.alu .or x))
      ∧ ∃ t, Retires (instrOf (.alu .or x)) s t (aluReads x s)
        ∧ (∀ j, (t.r8 .A).getLsbD j = (a.getLsbD j || v.getLsbD j))
        ∧ t.flags = { z := t.r8 .A == 0, n := false, h := false, c := false }
        ∧ KeptBut { regs := [.A], flags := true } s t)

/-- R200 `INC r` and R202 `DEC r`, the 14 constructors `inc_B` to `inc_A`, `dec_B` to `dec_A`; R201 `INC (HL)`,
`inc_atHL`, and R203 `DEC (HL)`, `dec_atHL`: a read, then a write at the same address. `C` is kept. That the byte reads
back as stored is log 4 (memory as RAM, R57). -/
def Obligations.IncrementDecrementByte : Prop :=
  ∀ (r : Reg8) (s : State),
    let inc (v : Byte) : Byte := BitVec.ofNat 8 (v.toNat + 1)
    let incFlags (v : Byte) : Flags :=
      { z := decide (v.toNat = 255), n := false, h := decide (v.toNat % 16 = 15), c := s.flags.c }
    let dec (v : Byte) : Byte := BitVec.ofInt 8 (v.toNat - 1)
    let decFlags (v : Byte) : Flags :=
      { z := decide (v.toNat = 1), n := true, h := decide (v.toNat % 16 = 0), c := s.flags.c }
    let m := Memory.read s.mem s.hl
    (Encoded [opXYZ 0b00 (regIndex r) 0b100] (instrOf (.incReg r))
      ∧ ∃ t, Retires (instrOf (.incReg r)) s t [] ∧ t.r8 r = inc (s.r8 r) ∧ t.flags = incFlags (s.r8 r)
        ∧ KeptBut { regs := [r], flags := true } s t)
    ∧ (Encoded [opXYZ 0b00 (regIndex r) 0b101] (instrOf (.decReg r))
      ∧ ∃ t, Retires (instrOf (.decReg r)) s t [] ∧ t.r8 r = dec (s.r8 r) ∧ t.flags = decFlags (s.r8 r)
        ∧ KeptBut { regs := [r], flags := true } s t)
    ∧ (Encoded [0x34] .inc_atHL
      ∧ ∃ t, Retires .inc_atHL s t [.read s.hl m, .write s.hl (inc m)]
        ∧ Memory.read t.mem s.hl = inc m ∧ t.flags = incFlags m ∧ KeptBut { flags := true, stores := [s.hl] } s t)
    ∧ (Encoded [0x35] .dec_atHL
      ∧ ∃ t, Retires .dec_atHL s t [.read s.hl m, .write s.hl (dec m)]
        ∧ Memory.read t.mem s.hl = dec m ∧ t.flags = decFlags m ∧ KeptBut { flags := true, stores := [s.hl] } s t)

/-- R204 `DAA`, `daa`, the algorithm of decision D27, for every `A` and every combination of flags. -/
def Obligations.DecimalAdjust : Prop :=
  ∀ s : State,
    let a := (s.r8 .A).toNat
    let fl := s.flags
    let low := if fl.h = true ∨ (fl.n = false ∧ a % 16 > 9) then 0x06 else 0
    let high := if fl.c = true ∨ (fl.n = false ∧ a > 0x99) then 0x60 else 0
    let r := if fl.n then a + 256 - (low + high) else a + (low + high)
    Encoded [0x27] (instrOf .daa)
      ∧ ∃ t, Retires (instrOf .daa) s t [] ∧ t.r8 .A = BitVec.ofNat 8 r
        ∧ t.flags = { z := decide (r % 256 = 0), n := fl.n, h := false, c := decide (high = 0x60) }
        ∧ KeptBut { regs := [.A], flags := true } s t

/-- `ADC` of two packed BCD bytes and a carry, then `DAA`, is the BCD sum, its hundred in `C`; `SUB` and `DAA` the BCD
difference. It follows from R101, R102 and R204 (decision D27). -/
def Obligations.DecimalAdjustMakesBcd : Prop :=
  ∀ (m n : Nat) (cin : Bool), m < 100 → n < 100 →
    let bcd : Nat → Byte := fun k => BitVec.ofNat 8 (k / 10 * 16 + k % 10)
    let sum := (adc8 (bcd m) (bcd n) cin).out false
    let dif := (sub8 (bcd m) (bcd n)).out true
    (daaOut sum.r sum.fl).r = bcd ((m + n + cin.toNat) % 100)
      ∧ (daaOut sum.r sum.fl).fl.c = decide (m + n + cin.toNat ≥ 100)
      ∧ (daaOut dif.r dif.fl).r = bcd ((m + 100 - n) % 100)
      ∧ (daaOut dif.r dif.fl).fl.c = decide (m < n)

/-- R205 `CPL`, R206 `SCF`, R207 `CCF`: `cpl`, `scf`, `ccf`. -/
def Obligations.ComplementAndCarryFlag : Prop :=
  ∀ s : State,
    (Encoded [0x2F] (instrOf .cpl)
      ∧ ∃ t, Retires (instrOf .cpl) s t [] ∧ t.r8 .A = ~~~(s.r8 .A)
        ∧ t.flags = { z := s.flags.z, n := true, h := true, c := s.flags.c }
        ∧ KeptBut { regs := [.A], flags := true } s t)
    ∧ (Encoded [0x37] (instrOf .scf)
      ∧ ∃ t, Retires (instrOf .scf) s t [] ∧ t.flags = { z := s.flags.z, n := false, h := false, c := true }
        ∧ KeptBut { flags := true } s t)
    ∧ (Encoded [0x3F] (instrOf .ccf)
      ∧ ∃ t, Retires (instrOf .ccf) s t [] ∧ t.flags = { z := s.flags.z, n := false, h := false, c := !s.flags.c }
        ∧ KeptBut { flags := true } s t)

/-! ## 16-bit arithmetic -/

/-- R211 `ADD HL,rr` with R104, the 4 constructors `add_HL_BC` to `add_HL_SP`: carries out of bits 11 and 15, `Z` kept. -/
def Obligations.AddToHL : Prop :=
  ∀ (p : Pair) (s : State),
    let a := s.hl.toNat
    let b := (s.pair p).toNat
    Encoded [opXPQZ 0b00 (pairIndex p) 1 0b001] (instrOf (.addHL p))
      ∧ ∃ t, Retires (instrOf (.addHL p)) s t [.internal] ∧ t.hl = BitVec.ofNat 16 (a + b)
        ∧ t.flags = { z := s.flags.z, n := false, h := decide (a % 4096 + b % 4096 > 4095),
                      c := decide (a + b > 65535) }
        ∧ KeptBut { regs := [.H, .L], flags := true } s t

/-- R212 `INC rr` and R213 `DEC rr`, the 8 constructors `inc_BC` to `inc_SP`, `dec_BC` to `dec_SP`: no flag, modulo
65,536. -/
def Obligations.IncrementDecrementPair : Prop :=
  ∀ (p : Pair) (s : State),
    (Encoded [opXPQZ 0b00 (pairIndex p) 0 0b011] (instrOf (.incPair p))
      ∧ ∃ t, Retires (instrOf (.incPair p)) s t [.internal]
        ∧ t.pair p = BitVec.ofNat 16 ((s.pair p).toNat + 1)
        ∧ KeptBut { regs := pairRegs p, sp := decide (p = .SP) } s t)
    ∧ (Encoded [opXPQZ 0b00 (pairIndex p) 1 0b011] (instrOf (.decPair p))
      ∧ ∃ t, Retires (instrOf (.decPair p)) s t [.internal]
        ∧ t.pair p = BitVec.ofNat 16 ((s.pair p).toNat + 65535)
        ∧ KeptBut { regs := pairRegs p, sp := decide (p = .SP) } s t)

/-! ## Rotates, shifts, bits -/

/-- R221 `RLCA`, R222 `RRCA`, R223 `RLA`, R224 `RRA`: `rlca`, `rrca`, `rla`, `rra`. `Z` is cleared, not computed. -/
def Obligations.RotateAccumulator : Prop :=
  ∀ s : State,
    let done (op : RotOp) (t : State) : Prop :=
      t.r8 .A = (rotSpec op (s.r8 .A) s.flags.c).1
        ∧ t.flags = { z := false, n := false, h := false, c := (rotSpec op (s.r8 .A) s.flags.c).2 }
        ∧ KeptBut { regs := [.A], flags := true } s t
    (Encoded [0x07] .rlca ∧ ∃ t, Retires .rlca s t [] ∧ done .rlc t)
      ∧ (Encoded [0x0F] .rrca ∧ ∃ t, Retires .rrca s t [] ∧ done .rrc t)
      ∧ (Encoded [0x17] .rla ∧ ∃ t, Retires .rla s t [] ∧ done .rl t)
      ∧ (Encoded [0x1F] .rra ∧ ∃ t, Retires .rra s t [] ∧ done .rr t)

/-- R225, R227, R229, R231, R233, R235, R237, R239, `RLC` to `SRL` on a register: the 56 constructors `rlc_B` to `srl_A`. `Z`
is computed. -/
def Obligations.RotateRegister : Prop :=
  ∀ (op : RotOp) (r : Reg8) (s : State),
    let rotated := rotSpec op (s.r8 r) s.flags.c
    Encoded [0xCB, opXYZ 0b00 (rotIndex op) (regIndex r)] (instrOf (.cb (.rot op (.reg r))))
      ∧ ∃ t, Retires (instrOf (.cb (.rot op (.reg r)))) s t [] ∧ t.r8 r = rotated.1
        ∧ t.flags = { z := rotated.1 == 0, n := false, h := false, c := rotated.2 }
        ∧ KeptBut { regs := [r], flags := true } s t

/-- R226, R228, R230, R232, R234, R236, R238, R240, `RLC` to `SRL` on `(HL)`: the 8 constructors `rlc_atHL` to `srl_atHL`; a
read, then a write at the same address. That the byte reads back as stored is log 4 (memory as RAM, R57). -/
def Obligations.RotateMemory : Prop :=
  ∀ (op : RotOp) (s : State),
    let m := Memory.read s.mem s.hl
    let rotated := rotSpec op m s.flags.c
    Encoded [0xCB, opXYZ 0b00 (rotIndex op) 0b110] (instrOf (.cb (.rot op .atHL)))
      ∧ ∃ t, Retires (instrOf (.cb (.rot op .atHL))) s t [.read s.hl m, .write s.hl rotated.1]
        ∧ Memory.read t.mem s.hl = rotated.1
        ∧ t.flags = { z := rotated.1 == 0, n := false, h := false, c := rotated.2 }
        ∧ KeptBut { flags := true, stores := [s.hl] } s t

/-- R241 `BIT b,r`, the 56 constructors `bit_0_B` to `bit_7_A` on registers, and R242 `BIT b,(HL)`, the 8 constructors
`bit_0_atHL` to `bit_7_atHL`. -/
def Obligations.TestBit : Prop :=
  ∀ (b : BitNo) (r : Reg8) (s : State),
    (Encoded [0xCB, opXYZ 0b01 (bitNoIndex b) (regIndex r)] (instrOf (.cb (.bit b (.reg r))))
      ∧ ∃ t, Retires (instrOf (.cb (.bit b (.reg r)))) s t []
        ∧ t.flags = { z := !(s.r8 r).getLsbD (bitNat b), n := false, h := true, c := s.flags.c }
        ∧ KeptBut { flags := true } s t)
    ∧ (Encoded [0xCB, opXYZ 0b01 (bitNoIndex b) 0b110] (instrOf (.cb (.bit b .atHL)))
      ∧ ∃ t, Retires (instrOf (.cb (.bit b .atHL))) s t [.read s.hl (Memory.read s.mem s.hl)]
        ∧ t.flags = { z := !(Memory.read s.mem s.hl).getLsbD (bitNat b), n := false, h := true, c := s.flags.c }
        ∧ KeptBut { flags := true } s t)

/-- R243 `RES b,r` and R245 `SET b,r`, the 112 constructors `res_0_B` to `res_7_A`, `set_0_B` to `set_7_A` on registers;
R244 `RES b,(HL)` and R246 `SET b,(HL)`, the 16 constructors `res_0_atHL` to `res_7_atHL`, `set_0_atHL` to `set_7_atHL`:
a read, then a write at the same address, even if the bit stays. One bit changes, no flag. That the
byte reads back as stored is log 4 (memory as RAM, R57). -/
def Obligations.ResetOrSetBit : Prop :=
  ∀ (b : BitNo) (r : Reg8) (s : State),
    let m := Memory.read s.mem s.hl
    (Encoded [0xCB, opXYZ 0b10 (bitNoIndex b) (regIndex r)] (instrOf (.cb (.res b (.reg r))))
      ∧ ∃ t, Retires (instrOf (.cb (.res b (.reg r)))) s t [] ∧ BitSetTo (bitNat b) false (s.r8 r) (t.r8 r)
        ∧ KeptBut { regs := [r] } s t)
    ∧ (Encoded [0xCB, opXYZ 0b11 (bitNoIndex b) (regIndex r)] (instrOf (.cb (.set b (.reg r))))
      ∧ ∃ t, Retires (instrOf (.cb (.set b (.reg r)))) s t [] ∧ BitSetTo (bitNat b) true (s.r8 r) (t.r8 r)
        ∧ KeptBut { regs := [r] } s t)
    ∧ (Encoded [0xCB, opXYZ 0b10 (bitNoIndex b) 0b110] (instrOf (.cb (.res b .atHL)))
      ∧ ∃ t w, Retires (instrOf (.cb (.res b .atHL))) s t [.read s.hl m, .write s.hl w]
        ∧ Memory.read t.mem s.hl = w ∧ BitSetTo (bitNat b) false m w ∧ KeptBut { stores := [s.hl] } s t)
    ∧ (Encoded [0xCB, opXYZ 0b11 (bitNoIndex b) 0b110] (instrOf (.cb (.set b .atHL)))
      ∧ ∃ t w, Retires (instrOf (.cb (.set b .atHL))) s t [.read s.hl m, .write s.hl w]
        ∧ Memory.read t.mem s.hl = w ∧ BitSetTo (bitNat b) true m w ∧ KeptBut { stores := [s.hl] } s t)

/-- R276: the row of the prefix, `cbPrefix`, is run by the driver as the fetch of `cbop` and the CB-space instruction
that `cbop` selects. -/
def Obligations.PrefixRunsTheCbInstruction : Prop :=
  ∀ s : State, ∃ t, exec .cbPrefix s = .next t
    ∧ exec (instrOf (.cb (cbFormOf (Memory.read s.mem s.pc)))) (s.fetched 1) = .next t

/-! ## Control flow -/

/-- R251 `JP nn`, `jp_nn`; R252 `JP cc,nn`, the 4 constructors `jp_NZ_nn` to `jp_C_nn`; R253 `JP HL`,
`jp_HL`. The conditions of R250 read `Z` (bit 7 of `F`) and `C` (bit 4). -/
def Obligations.JumpSetsPC : Prop :=
  ∀ (nn : Word) (cc : Cond) (s : State),
    (Encoded [0xC3, lo nn, hi nn] (instrOf (.jp nn))
      ∧ ∃ t, Retires (instrOf (.jp nn)) s t [.internal] ∧ t.pc = nn ∧ KeptBut { pc := true } s t)
    ∧ (Encoded [opXYZ 0b11 (0#1 ++ condIndex cc) 0b010, lo nn, hi nn] (instrOf (.jpCond cc nn))
      ∧ ∃ t, Retires (instrOf (.jpCond cc nn)) s t (if s.flags.cond cc then [.internal] else [])
        ∧ t.pc = (if s.flags.cond cc then nn else s.pc) ∧ KeptBut { pc := true } s t)
    ∧ (Encoded [0xE9] (instrOf .jpHL)
      ∧ ∃ t, Retires (instrOf .jpHL) s t [] ∧ t.pc = mk16 (s.r8 .H) (s.r8 .L) ∧ KeptBut { pc := true } s t)
    ∧ s.flags.cond cc = (match cc with
        | .NZ => !s.f.getLsbD 7
        | .Z => s.f.getLsbD 7
        | .NC => !s.f.getLsbD 4
        | .C => s.f.getLsbD 4)

/-- R254 `JR e`, `jr_e`, and R255 `JR cc,e`, the 4 constructors `jr_NZ_e` to `jr_C_e`: relative to the address after the
instruction, the displacement signed; the sum wraps modulo 65,536 (decision D3). -/
def Obligations.RelativeJumpAddsDisplacement : Prop :=
  ∀ (e : Byte) (cc : Cond) (s : State),
    let target : Word := BitVec.ofInt 16 (s.pc.toNat + e.toInt)
    (Encoded [0x18, e] (instrOf (.jr e))
      ∧ ∃ t, Retires (instrOf (.jr e)) s t [.internal] ∧ t.pc = target ∧ KeptBut { pc := true } s t)
    ∧ (Encoded [opXYZ 0b00 (1#1 ++ condIndex cc) 0b000, e] (instrOf (.jrCond cc e))
      ∧ ∃ t, Retires (instrOf (.jrCond cc e)) s t (if s.flags.cond cc then [.internal] else [])
        ∧ t.pc = (if s.flags.cond cc then target else s.pc) ∧ KeptBut { pc := true } s t)

/-- R256 `CALL nn`, `call_nn`, and R257 `CALL cc,nn`, the 4 constructors `call_NZ_nn` to `call_C_nn`: the address after
the instruction is pushed, high byte first; not taken, the stack is not touched. That both bytes read back
as pushed is log 4 (memory as RAM, R57, R160). -/
def Obligations.CallPushesTheReturnAddress : Prop :=
  ∀ (nn : Word) (cc : Cond) (s : State),
    let pushes : List MCycle := [.internal, .write (s.sp - 1) (hi s.pc), .write (s.sp - 2) (lo s.pc)]
    let called (t : State) : Prop :=
      t.pc = nn ∧ t.sp = s.sp - 2 ∧ Memory.read t.mem (s.sp - 1) = hi s.pc ∧ Memory.read t.mem (s.sp - 2) = lo s.pc
        ∧ KeptBut { pc := true, sp := true, stores := [s.sp - 1, s.sp - 2] } s t
    (Encoded [0xCD, lo nn, hi nn] (instrOf (.call nn)) ∧ ∃ t, Retires (instrOf (.call nn)) s t pushes ∧ called t)
    ∧ Encoded [opXYZ 0b11 (0#1 ++ condIndex cc) 0b100, lo nn, hi nn] (instrOf (.callCond cc nn))
    ∧ (s.flags.cond cc = true → ∃ t, Retires (instrOf (.callCond cc nn)) s t pushes ∧ called t)
    ∧ (s.flags.cond cc = false → ∃ t, Retires (instrOf (.callCond cc nn)) s t [] ∧ KeptBut {} s t)

/-- R258 `RET`, `ret`, and R259 `RET cc`, the 4 constructors `ret_NZ` to `ret_C`: not taken, the stack is not read. `IME`
is unchanged. -/
def Obligations.ReturnPopsPC : Prop :=
  ∀ (cc : Cond) (s : State),
    let l := Memory.read s.mem s.sp
    let h := Memory.read s.mem (s.sp + 1)
    let returned (t : State) : Prop :=
      t.pc = mk16 h l ∧ t.sp = s.sp + 2 ∧ KeptBut { pc := true, sp := true } s t
    (Encoded [0xC9] .ret ∧ ∃ t, Retires .ret s t [.read s.sp l, .read (s.sp + 1) h, .internal] ∧ returned t)
    ∧ Encoded [opXYZ 0b11 (0#1 ++ condIndex cc) 0b000] (instrOf (.retCond cc))
    ∧ (s.flags.cond cc = true →
        ∃ t, Retires (instrOf (.retCond cc)) s t [.internal, .read s.sp l, .read (s.sp + 1) h, .internal] ∧ returned t)
    ∧ (s.flags.cond cc = false → ∃ t, Retires (instrOf (.retCond cc)) s t [.internal] ∧ KeptBut {} s t)

/-- R260 `RETI`, `reti`, R313: `PC` is popped and `IME` is set, at once (decision D26); nothing else is restored. -/
def Obligations.ReturnFromInterruptSetsIme : Prop :=
  ∀ s : State,
    let l := Memory.read s.mem s.sp
    let h := Memory.read s.mem (s.sp + 1)
    Encoded [0xD9] .reti
      ∧ ∃ t, Retires .reti s t [.read s.sp l, .read (s.sp + 1) h, .internal] ∧ t.pc = mk16 h l ∧ t.sp = s.sp + 2
        ∧ t.ime = true ∧ KeptBut { pc := true, sp := true, ime := true } s t

/-- R261 `RST t`, the 8 constructors `rst_00` to `rst_38`: a call of `8 * y`. That both bytes read back as
pushed is log 4 (memory as RAM, R57, R160). -/
def Obligations.RestartCallsItsTarget : Prop :=
  ∀ (k : RstTarget) (s : State),
    Encoded [opXYZ 0b11 (rstIndex k) 0b111] (instrOf (.rst k))
      ∧ ∃ t, Retires (instrOf (.rst k)) s t [.internal, .write (s.sp - 1) (hi s.pc), .write (s.sp - 2) (lo s.pc)]
        ∧ t.pc.toNat = 8 * (rstIndex k).toNat ∧ t.sp = s.sp - 2
        ∧ Memory.read t.mem (s.sp - 1) = hi s.pc ∧ Memory.read t.mem (s.sp - 2) = lo s.pc
        ∧ KeptBut { pc := true, sp := true, stores := [s.sp - 1, s.sp - 2] } s t

/-! ## Machine control -/

/-- R270 `NOP`, `nop`, and R273 `DI`, `di`. -/
def Obligations.NoOperationAndDisable : Prop :=
  ∀ s : State,
    (Encoded [0x00] .nop ∧ ∃ t, Retires .nop s t [] ∧ KeptBut {} s t)
      ∧ (Encoded [0xF3] .di ∧ ∃ t, Retires .di s t [] ∧ t.ime = false ∧ KeptBut { ime := true } s t)

/-- R274 `EI`, `ei` (no delay, decision D9); R271 `HALT`, `halt` (decision D10); R272 `STOP`, `stop` (halt-like, decision
D11): the second byte of `STOP` is stepped over and not read, whatever it is. -/
def Obligations.EnableHaltAndStop : Prop :=
  ∀ s : State,
    (Encoded [0xFB] .ei ∧ ∃ t, Retires .ei s t [] ∧ t.ime = true ∧ KeptBut { ime := true } s t)
      ∧ (Encoded [0x76] .halt ∧ ∃ t, Retires .halt s t [] ∧ t.halted = true ∧ KeptBut { halted := true } s t)
      ∧ ((∀ b rest, decode (0x10 :: b :: rest) = .ok (.stop, rest))
        ∧ ∃ t, Retires .stop s t [] ∧ t.halted = true ∧ t.pc = s.pc + 1
          ∧ KeptBut { halted := true, pc := true } s t)

/-- R275, R301: the 11 constructors `invalid_D3` to `invalid_FD` take the fault `UnsupportedOpcode`: the latch is set, the
byte recorded, nothing else changes. Where the fault lives is decision D13. -/
def Obligations.InvalidOpcodeTakesTheFault : Prop :=
  ∀ (k : InvalidOp) (s : State),
    Encoded [invalidByte k] (instrOf (.invalid k))
      ∧ ∃ t, Retires (instrOf (.invalid k)) s t [] ∧ t.faulted = true ∧ t.faultOpcode = invalidByte k
        ∧ KeptBut { fault := true } s t

/-- R119 (decision D13): after a fault every turn of CORE changes nothing, and no step but a reset clears the fault or the
byte it recorded. R118, R320 (decision D10): while halted, a turn of CORE takes one M-cycle without bus access and
changes nothing. -/
def Obligations.FaultedOrHaltedCoreExecutesNothing : Prop :=
  ∀ s : State,
    (s.faulted = true →
      advance s = .next s
        ∧ ∀ t, step s = .next t → (∀ rest, s.env ≠ .reset :: rest) →
          t.faulted = true ∧ t.faultOpcode = s.faultOpcode)
    ∧ (s.faulted = false → s.halted = true →
      ∃ t, advance s = .next t ∧ t.cycles = .internal :: s.cycles ∧ t.mem = s.mem ∧ KeptBut {} s t)

/-! ## The environment -/

/-- R305, R306, R307 (decision D12): a dispatch with `IME = 1` and no fault clears `IME` and `halted`, pushes `PC`, high
byte first, and goes to the vector, in five M-cycles; nothing else changes. Without `IME`, or after a fault, it is
refused by name (log 15). That both bytes read back as pushed is log 4 (memory as RAM, R57, R160). -/
def Obligations.DispatchEntersTheHandler : Prop :=
  ∀ (s : State) (v : Word) (rest : List EnvEvent), s.env = .int v :: rest →
    (s.ime = true → s.faulted = false →
      ∃ t, step s = .next t ∧ t.ime = false ∧ t.halted = false ∧ t.pc = v ∧ t.sp = s.sp - 2
        ∧ Memory.read t.mem (s.sp - 1) = hi s.pc ∧ Memory.read t.mem (s.sp - 2) = lo s.pc
        ∧ t.cycles = [.internal, .write (s.sp - 2) (lo s.pc), .write (s.sp - 1) (hi s.pc), .internal, .internal]
            ++ s.cycles
        ∧ KeptBut { ime := true, halted := true, pc := true, sp := true, stores := [s.sp - 1, s.sp - 2] }
            { s with env := rest } t)
    ∧ ((s.ime = false ∨ s.faulted = true) → step s = .refused .dispatchNotEnabled)

/-- A dispatch followed by `RETI` at the vector gives `PC`, `SP` and `IME` back (R307, R313, R314; decisions D12, D26).
That `PC` comes back through the stack is log 4 (memory as RAM, R57, R160). -/
def Obligations.DispatchThenReturnRestores : Prop :=
  ∀ (s : State) (v : Word), s.ime = true → s.faulted = false →
    ∃ t u, transition (.int v) s = .next t ∧ exec .reti t = .next u ∧ u.pc = s.pc ∧ u.sp = s.sp ∧ u.ime = true
      ∧ u.halted = false ∧ (∀ r, u.r8 r = s.r8 r) ∧ u.f = s.f

/-- R321, R325 (decision D10): the wake-up clears `halted` and nothing else; where CORE is not halted, or after a fault,
it is refused by name (log 15). R57, R65, R325 `T_mem`: another agent makes a location read as it likes; CORE's state is
unchanged. -/
def Obligations.WakeAndAgentChangeWhatTheyName : Prop :=
  ∀ (s : State) (a : Word) (v : Byte) (rest : List EnvEvent),
    (s.env = .wake :: rest → s.halted = true → s.faulted = false →
      ∃ t, step s = .next t ∧ t.halted = false ∧ t.mem = s.mem ∧ t.cycles = s.cycles
        ∧ KeptBut { halted := true } { s with env := rest } t)
    ∧ (s.env = .wake :: rest → s.halted = false ∨ s.faulted = true → step s = .refused .wakeNotEnabled)
    ∧ (s.env = .mem a v :: rest →
      ∃ t, step s = .next t ∧ Memory.read t.mem a = v ∧ t.cycles = s.cycles
        ∧ KeptBut { stores := [a] } { s with env := rest } t)

/-- R20 to R24, R37, R325 `T_dbg`: the scheduled write through an accessor is the write; a write of an 8-bit view
replaces that view, `F` masked, of a 16-bit register that register and both its views, `AF` masked, of a flag that flag
alone, of a latch that latch; every other register, flag, latch and byte of memory, the fault latch and the trace are as
before. -/
def Obligations.AccessorsReplaceWhatTheyName : Prop :=
  ∀ s : State,
    (∀ w rest, s.env = .dbg w :: rest → step s = .next ({ s with env := rest }.accessorWrite w))
    ∧ (∀ w, KeptBut (accessorChanges w) s (s.accessorWrite w) ∧ (s.accessorWrite w).cycles = s.cycles)
    ∧ (∀ (r x : Name8) (v : Byte), (s.accessorWrite (.reg8 r v)).access8 x =
        if x = r then (if r = .F then v &&& 0xF0 else v) else s.access8 x)
    ∧ (∀ (r x : Name16) (w : Word), (s.accessorWrite (.reg16 r w)).access16 x =
        if x = r then (if r = .AF then w &&& 0xFFF0 else w) else s.access16 x)
    ∧ (∀ (f x : FlagName) (b : Bool), (s.accessorWrite (.flag f b)).accessFlag x =
        if x = f then b else s.accessFlag x)
    ∧ (∀ b, (s.accessorWrite (.ime b)).ime = b ∧ (s.accessorWrite (.halted b)).halted = b)
    ∧ s.access16 .AF = mk16 (s.access8 .A) (s.access8 .F) ∧ s.access16 .BC = mk16 (s.access8 .B) (s.access8 .C)
    ∧ s.access16 .DE = mk16 (s.access8 .D) (s.access8 .E) ∧ s.access16 .HL = mk16 (s.access8 .H) (s.access8 .L)
    ∧ s.accessFlag .Z = (s.access8 .F).getLsbD 7 ∧ s.accessFlag .N = (s.access8 .F).getLsbD 6
    ∧ s.accessFlag .H = (s.access8 .F).getLsbD 5 ∧ s.accessFlag .C = (s.access8 .F).getLsbD 4
    ∧ s.access8 .F &&& 0x0F = 0

/-! ## M-cycle by M-cycle -/

/-- R115 to R117, R121: run one M-cycle at a time, the driver leaves `Idle`, stays `Executing`, and is `Idle` again, with
exactly the state of the whole-instruction view, after as many advances as that view counts M-cycles. -/
def Obligations.DriverRefinesTheWholeInstruction : Prop :=
  ∀ s : State, s.faulted = false → s.halted = false →
    ∃ t n, advance s = .next t ∧ t.cycles.length = s.cycles.length + n ∧ 0 < n
      ∧ Clocked.advances n (.idle s) = .next (.idle t)
      ∧ ∀ k, 0 < k → k < n → ∃ m w, Clocked.advances k (.idle s) = .next (.executing m w)

/-- R111, R305, R325: while an instruction is in flight no dispatch, wake-up or accessor write is possible (the model
refuses it by name, log 15). Another agent may change memory: the instruction goes on where it stands, with the new byte
at that address and all else as it was (R60, R65). A reset is possible: it discards the instruction and gives the reset
state (R340, its numbers decision D2), memory as it is. R112, R302 (decision D17): a cycle number that is not the next one
of the instruction in flight, or a call after retirement, is the protocol violation. -/
def Obligations.InFlightOnlyTheNextCycleAnAgentOrAReset : Prop :=
  ∀ (cycle n : Nat) (w : Work) (a v : Word) (b : Byte) (acc : AccessorWrite),
    Clocked.transition (.int v) (.executing n w) = .refused .driverExecuting
      ∧ Clocked.transition .wake (.executing n w) = .refused .driverExecuting
      ∧ Clocked.transition (.dbg acc) (.executing n w) = .refused .driverExecuting
      ∧ (∃ f : State → State,
          Clocked.transition (.mem a b) (.executing n w) = .next (.executing n (w.onState f))
            ∧ (w.onState f).state = f w.state
            ∧ ∀ s, Memory.read (f s).mem a = b ∧ (f s).cycles = s.cycles ∧ KeptBut { stores := [a] } s (f s))
      ∧ (∃ c, Clocked.transition .reset (.executing n w) = .next (.idle c) ∧ c.af = 0x01B0 ∧ c.bc = 0x0013
          ∧ c.de = 0x00D8 ∧ c.hl = 0x014D ∧ c.sp = 0xFFFE ∧ c.pc = 0x0100 ∧ c.ime = false ∧ c.faulted = false
          ∧ c.halted = false ∧ c.mem = w.state.mem ∧ c.cycles = w.state.cycles ∧ c.env = w.state.env)
      ∧ ((cycle ≠ n ∨ ∃ s, w = .done s) → cycleStep cycle n w = .fault .protocolViolation)

/-! ## The parameters -/

/-- R4, R38, R340, R342: a reset takes its values from the parameters `RESET_*`, whatever they are, `AF` masked (R24; log
25); the invariant of Safety.lean holds after it where memory had its canonical form. R82, R114, R275, R301: a first byte
in the parameter `INVALID_OPCODES`, whatever set it is, takes the fault with that byte, in both views; only the prefix is
taken before (R116). Nothing else depends on the parameters: not the other transitions of R325, not CORE's turn on a byte
outside the set (one of the eleven keeps its row of the table; log 25). The machine's own parameters are the defaults
(decisions D2, D9, D11). -/
def Obligations.ResetAndDecodeTakeTheirParameters : Prop :=
  ∀ (p : Config.Params) (s : State),
    let b := Memory.read s.mem s.pc
    (∃ t, transitionWith p .reset s = .next t ∧ t.af = p.resetAF &&& 0xFFF0 ∧ t.bc = p.resetBC ∧ t.de = p.resetDE
      ∧ t.hl = p.resetHL ∧ t.sp = p.resetSP ∧ t.pc = p.resetPC ∧ t.ime = p.resetIME ∧ t.halted = p.resetHalted
      ∧ t.faulted = false ∧ t.mem = s.mem ∧ t.cycles = s.cycles ∧ t.env = s.env
      ∧ (Memory.wf s.mem = true → Inv t))
    ∧ Inv (State.resetWith p)
    ∧ (s.faulted = false → s.halted = false → b ≠ 0xCB → b ∈ p.invalidOpcodes →
        ∃ t, transitionWith p .core s = .next t ∧ Clocked.transitionWith p .core (.idle s) = .next (.idle t)
          ∧ t.faulted = true ∧ t.faultOpcode = b ∧ t.pc = s.pc + 1 ∧ t.cycles = .read s.pc b :: s.cycles
          ∧ KeptBut { fault := true, pc := true } s t)
    ∧ (b = 0xCB ∨ b ∉ p.invalidOpcodes → transitionWith p .core s = transitionWith Config.params .core s
        ∧ Clocked.transitionWith p .core (.idle s) = Clocked.transitionWith Config.params .core (.idle s))
    ∧ (∀ e, e ≠ .reset → e ≠ .core → transitionWith p e s = transitionWith Config.params e s)
    ∧ Config.params =
      { resetAF := 0x01B0, resetBC := 0x0013, resetDE := 0x00D8, resetHL := 0x014D, resetSP := 0xFFFE,
        resetPC := 0x0100, resetIME := false, resetHalted := false, eiDelay := .zero, stopBehaviour := .haltLike,
        invalidOpcodes := [0xD3, 0xDB, 0xDD, 0xE3, 0xE4, 0xEB, 0xEC, 0xED, 0xF4, 0xFC, 0xFD],
        intVectors := [0x0040, 0x0048, 0x0050, 0x0058, 0x0060] }
end

