-- ==== Sys2Proof/Laws/Bytes.lean ====
section
/-! SUPPORT. Bytes and words: `hi`, `lo`, `{h, l}` (R5), the extensions (R6), and `F` as a byte (R23, R24). -/

namespace Sys2Proof

theorem getLsbD_mk16 (h l : Byte) (i : Nat) :
    (mk16 h l).getLsbD i = if i < 8 then l.getLsbD i else h.getLsbD (i - 8) :=
  BitVec.getLsbD_append

@[simp] theorem hi_mk16 (h l : Byte) : hi (mk16 h l) = h := by
  apply BitVec.eq_of_getLsbD_eq
  intro i hi
  simp [Sys2Proof.hi, getLsbD_mk16, hi]

@[simp] theorem lo_mk16 (h l : Byte) : lo (mk16 h l) = l := by
  apply BitVec.eq_of_getLsbD_eq
  intro i hi
  simp [lo, getLsbD_mk16, hi]

@[simp] theorem mk16_hi_lo (w : Word) : mk16 (hi w) (lo w) = w := by
  apply BitVec.eq_of_getLsbD_eq
  intro i hi
  rw [getLsbD_mk16]
  by_cases h : i < 8
  · simp [h, lo]
  · simp [h, Sys2Proof.hi, show i - 8 < 8 by omega, show 8 + (i - 8) = i by omega]

theorem word_ext {v w : Word} (h : hi v = hi w) (l : lo v = lo w) : v = w := by
  rw [← mk16_hi_lo v, ← mk16_hi_lo w, h, l]

@[simp] theorem hi_and (v w : Word) : hi (v &&& w) = hi v &&& hi w := by
  ext i hi
  simp [Sys2Proof.hi]

@[simp] theorem lo_and (v w : Word) : lo (v &&& w) = lo v &&& lo w := by
  ext i hi
  simp [lo]

@[simp] theorem mk16_and (h l h' l' : Byte) : mk16 h l &&& mk16 h' l' = mk16 (h &&& h') (l &&& l') :=
  word_ext (by simp) (by simp)

@[simp] theorem hi_mask : hi 0xFFF0#16 = 0xFF#8 := by decide

@[simp] theorem lo_mask : lo 0xFFF0#16 = 0xF0#8 := by decide

@[simp] theorem and_ff (b : Byte) : b &&& 0xFF#8 = b := by
  have : 0xFF#8 = BitVec.allOnes 8 := by decide
  rw [this, BitVec.and_allOnes]

@[simp] theorem and_f0_f0 (b : Byte) : b &&& 0xF0#8 &&& 0xF0#8 = b &&& 0xF0#8 := by
  rw [BitVec.and_assoc]; rfl

/-- `sext_16` is the sign extension of BitVec (R6). -/
theorem sext16_eq_signExtend (b : Byte) : Machine.sext16 b = b.signExtend 16 := by
  revert b; decide

/-- `zext_16` is the zero extension of BitVec (R6). -/
theorem zext16_eq_setWidth (b : Byte) : Machine.zext16 b = b.setWidth 16 := by
  revert b; decide

@[simp] theorem zext16_toNat (b : Byte) : (Machine.zext16 b).toNat = b.toNat := by
  revert b; decide

/-! ## The addresses of two-byte accesses, modulo 65,536 (R54) -/

@[simp] theorem word_sub_one_one (w : Word) : w - 1#16 - 1#16 = w - 2#16 := by bv_omega

@[simp] theorem word_add_one_one (w : Word) : w + 1#16 + 1#16 = w + 2#16 := by bv_omega

@[simp] theorem word_sub_one_ne (w : Word) : w - 1#16 ≠ w - 2#16 := by bv_omega

@[simp] theorem word_add_one_ne (w : Word) : w ≠ w + 1#16 := by bv_omega

/-! ## Masks as remainders -/

theorem nibble_toNat (b : Byte) : (b &&& 15#8).toNat = b.toNat % 16 := by
  rw [BitVec.toNat_and]; exact Nat.and_two_pow_sub_one_eq_mod _ 4

theorem word_nibble_toNat (w : Word) : (w &&& 15#16).toNat = w.toNat % 16 := by
  rw [BitVec.toNat_and]; exact Nat.and_two_pow_sub_one_eq_mod _ 4

theorem word_byte_toNat (w : Word) : (w &&& 255#16).toNat = w.toNat % 256 := by
  rw [BitVec.toNat_and]; exact Nat.and_two_pow_sub_one_eq_mod _ 8

theorem word_twelve_toNat (w : Word) : (w &&& 4095#16).toNat = w.toNat % 4096 := by
  rw [BitVec.toNat_and]; exact Nat.and_two_pow_sub_one_eq_mod _ 12

namespace Machine

@[simp] theorem Flags.toByte_mask (fl : Flags) : fl.toByte &&& 0xF0#8 = fl.toByte := by
  obtain ⟨z, n, h, c⟩ := fl
  cases z <;> cases n <;> cases h <;> cases c <;> rfl

@[simp] theorem Flags.ofByte_toByte (fl : Flags) : Flags.ofByte fl.toByte = fl := by
  obtain ⟨z, n, h, c⟩ := fl
  cases z <;> cases n <;> cases h <;> cases c <;> rfl

@[simp] theorem Flags.toByte_ofByte (b : Byte) : (Flags.ofByte b).toByte = b &&& 0xF0#8 := by
  revert b; decide

theorem Flags.toByte_injective {fl gl : Flags} (h : fl.toByte = gl.toByte) : fl = gl := by
  rw [← Flags.ofByte_toByte fl, ← Flags.ofByte_toByte gl, h]

end Machine

end Sys2Proof
end

