-- ==== Sys2Proof/Laws/Decode.lean ====
section
/-! SUPPORT. The decoder and the encoder: the CB space (R81), and the decoder on a list long enough. -/

namespace Sys2Proof

/-- After the prefix the next byte selects a CB-space instruction (R73). -/
theorem decode_prefix (x : Byte) (rest : List Byte) :
    decode (0xCB :: x :: rest) = .ok (instrOf (.cb (cbFormOf x)), rest) := rfl

@[simp] theorem cbFormOf_encodeCb (c : CbForm) : cbFormOf (encodeCb c) = c := by
  cases c with
  | rot op x =>
    cases op <;> cases x with
    | reg r => cases r <;> rfl
    | atHL => rfl
  | bit b x =>
    cases b <;> cases x with
    | reg r => cases r <;> rfl
    | atHL => rfl
  | res b x =>
    cases b <;> cases x with
    | reg r => cases r <;> rfl
    | atHL => rfl
  | set b x =>
    cases b <;> cases x with
    | reg r => cases r <;> rfl
    | atHL => rfl

@[simp] theorem encodeCb_cbFormOf (x : Byte) : encodeCb (cbFormOf x) = x := by revert x; decide

/-! ## The decode function at the default `INVALID_OPCODES` (R82, R114) -/

/-- Every byte of the default set has a row in the table, and it is the row that its place in the table names. -/
theorem invalid_default (op b1 b2 : Byte) (h : Config.params.invalidOpcodes.contains op = true) :
    (invalidRow op).map Form.invalid = some (plainForm op b1 b2) := by
  have hm : op ∈ Config.params.invalidOpcodes := by simpa using h
  simp only [Config.params, List.mem_cons, List.not_mem_nil, or_false] at hm
  rcases hm with rfl | rfl | rfl | rfl | rfl | rfl | rfl | rfl | rfl | rfl | rfl <;> rfl

/-- The row that the decode gives at the defaults, by the tables alone: the plain one holds the invalid opcodes. -/
theorem decodeForm_eq (b0 b1 b2 : Byte) :
    decodeForm b0 b1 b2 = bif b0 == Config.cbPrefixByte then .cb (cbFormOf b1) else plainForm b0 b1 b2 := by
  unfold decodeForm behaviourOf plainBehaviour
  cases b0 == Config.cbPrefixByte
  · cases h : Config.params.invalidOpcodes.contains b0
    · rfl
    · simp only [cond_false, cond_true, Behaviour.row, invalid_default b0 b1 b2 h, Option.getD_some]
  · rfl

/-- At the defaults the length is that of the first byte (R74). -/
@[simp] theorem lengthWith_default (b : Byte) : lengthWith Config.params.invalidOpcodes b = lengthOf b := by
  revert b; decide

/-- The length is 1, 2 or 3 (R70). -/
theorem lengthOf_pos (b : Byte) : 1 ≤ lengthOf b ∧ lengthOf b ≤ 3 := by revert b; decide

/-- The decoder on bytes that are long enough. -/
theorem decode_long (b0 b1 b2 : Byte) (rest : List Byte) :
    decode (b0 :: b1 :: b2 :: rest) = .ok (decode3 b0 b1 b2, (b1 :: b2 :: rest).drop (lengthOf b0 - 1)) := by
  have h := lengthOf_pos b0
  have hn : ¬ (rest.length + 1 + 1 + 1 < lengthOf b0) := by omega
  simp [decode, hn]

/-- A property of every byte, from its 256 values. -/
theorem forall_byte {p : Byte → Prop} (h : ∀ n, n < 256 → p (BitVec.ofNat 8 n)) (b : Byte) : p b := by
  have := h b.toNat b.isLt
  rwa [BitVec.ofNat_toNat, BitVec.setWidth_eq] at this

end Sys2Proof
end

