-- ==== Sys2Proof/Laws/Memory.lean ====
section
/-! SUPPORT. Memory: a read after a write (R57), for every list of cells; and the canonical form, kept by every memory
operation. -/

namespace Sys2Proof.Machine.Memory

/-! ## Reads -/

theorem find_cons (c : Host.Cell) (m : Memory) (k : Nat) :
    Memory.find (c :: m) k = if c.1 = k then some c.2 else find m k := rfl

@[simp] theorem find_erase (m : Memory) (k j : Nat) : find (erase m k) j = if j = k then none else find m j := by
  induction m with
  | nil => simp [erase, find]
  | cons c m ih =>
    by_cases hc : c.1 = k
    · rw [show erase (c :: m) k = erase m k by simp [erase, hc], ih, find_cons, hc]
      by_cases hj : j = k
      · simp [hj]
      · simp [hj, Ne.symm hj]
    · rw [show erase (c :: m) k = c :: erase m k by simp [erase, hc], find_cons, find_cons, ih]
      by_cases hj : c.1 = j
      · simp [hj, show j ≠ k from hj ▸ hc]
      · simp [hj]

theorem find_insert (m : Memory) (k j : Nat) (v : Byte) (h : find m k = none) :
    find (insert k v m) j = if j = k then some v else find m j := by
  induction m with
  | nil => simp [insert, find, eq_comm]
  | cons c m ih =>
    have hc : c.1 ≠ k := by
      intro hc
      simp [find, hc] at h
    have hm : find m k = none := by simpa [find, hc] using h
    by_cases hlt : k < c.1
    · simp only [insert, hlt, if_true]
      rw [find_cons]
      simp only [eq_comm]
    · simp only [insert, hlt, if_false]
      rw [find_cons, find_cons, ih hm]
      by_cases hj : c.1 = j
      · simp [hj, show j ≠ k from hj ▸ hc]
      · simp [hj]

/-- A read after a write: the byte written at its address, the byte of before anywhere else. -/
theorem read_write (m : Memory) (a b : Word) (v : Byte) :
    read (write m a v) b = if b = a then v else read m b := by
  have hab : b.toNat = a.toNat ↔ b = a := BitVec.toNat_inj
  unfold read write
  by_cases hv : v = Config.unlistedByte
  · by_cases hb : b = a <;> simp [hv, hab, hb]
  · rw [if_neg hv, find_insert _ _ _ _ (by simp)]
    by_cases hb : b = a <;> simp [hab, hb]

@[simp] theorem read_write_same (m : Memory) (a : Word) (v : Byte) : read (write m a v) a = v := by
  simp [read_write]

theorem read_write_other (m : Memory) {a b : Word} (v : Byte) (h : b ≠ a) : read (write m a v) b = read m b := by
  simp [read_write, h]

/-! ## The canonical form -/

/-- The canonical form, as propositions. -/
theorem rising_iff (m : Memory) : rising m = true ↔ m.Pairwise fun c d => c.1 < d.1 := by
  induction m with
  | nil => simp [rising]
  | cons c m ih =>
    cases m with
    | nil => simp [rising]
    | cons d m =>
      simp only [rising, Bool.and_eq_true, decide_eq_true_eq, ih, List.pairwise_cons, List.mem_cons]
      constructor
      · rintro ⟨hcd, hd, hm⟩
        refine ⟨?_, hd, hm⟩
        rintro e (rfl | he)
        · exact hcd
        · exact lt_trans hcd (hd e he)
      · rintro ⟨hc, hd, hm⟩
        exact ⟨hc d (Or.inl rfl), hd, hm⟩

theorem wf_iff (m : Memory) :
    wf m = true ↔ (m.Pairwise fun c d => c.1 < d.1) ∧ ∀ c ∈ m, c.1 < 65536 ∧ c.2 ≠ Config.unlistedByte := by
  simp [wf, rising_iff, List.all_eq_true]

theorem mem_insert {m : Memory} {k : Nat} {v : Byte} {c : Host.Cell} :
    c ∈ insert k v m ↔ c = (k, v) ∨ c ∈ m := by
  induction m with
  | nil => simp [insert]
  | cons d m ih =>
    by_cases h : k < d.1
    · simp [insert, h]
    · simp only [insert, h, if_false, List.mem_cons, ih]
      tauto

theorem pairwise_insert {m : Memory} {k : Nat} {v : Byte} (h : m.Pairwise fun c d => c.1 < d.1)
    (hk : ∀ c ∈ m, c.1 ≠ k) : (insert k v m).Pairwise fun c d => c.1 < d.1 := by
  induction m with
  | nil => simp [insert]
  | cons d m ih =>
    obtain ⟨hd, hm⟩ := List.pairwise_cons.1 h
    by_cases hlt : k < d.1
    · simp only [insert, hlt, if_true]
      refine List.pairwise_cons.2 ⟨?_, h⟩
      rintro e he
      rcases List.mem_cons.1 he with rfl | he
      · exact hlt
      · exact lt_trans hlt (hd e he)
    · simp only [insert, hlt, if_false]
      refine List.pairwise_cons.2 ⟨?_, ih hm fun c hc => hk c (List.mem_cons_of_mem _ hc)⟩
      intro e he
      rcases mem_insert.1 he with rfl | he
      · exact lt_of_le_of_ne (not_lt.1 hlt) (hk d List.mem_cons_self)
      · exact hd e he

/-- A write keeps the canonical form. -/
theorem wf_write {m : Memory} (h : wf m = true) (a : Word) (v : Byte) : wf (write m a v) = true := by
  obtain ⟨hp, hm⟩ := (wf_iff m).1 h
  have hpe : (erase m a.toNat).Pairwise fun c d => c.1 < d.1 := hp.sublist List.filter_sublist
  have hme : ∀ c ∈ erase m a.toNat, c ∈ m ∧ c.1 ≠ a.toNat := by
    intro c hc
    simpa [erase] using hc
  refine (wf_iff _).2 ?_
  unfold write
  split
  · exact ⟨hpe, fun c hc => hm c (hme c hc).1⟩
  · rename_i hv
    refine ⟨pairwise_insert hpe fun c hc => (hme c hc).2, fun c hc => ?_⟩
    rcases mem_insert.1 hc with rfl | hc
    · exact ⟨a.isLt, hv⟩
    · exact hm c (hme c hc).1

/-- Placing bytes keeps the canonical form. -/
theorem wf_placeBytes {m : Memory} (h : wf m = true) (a : Word) (bs : List Byte) :
    wf (placeBytes m a bs) = true := by
  induction bs generalizing m a with
  | nil => exact h
  | cons b bs ih => exact ih (wf_write h a b) (a + 1)

/-- The memory after reset has the canonical form. -/
theorem wf_reset : wf State.reset.mem = true := rfl

/-! ## Equal memories are equal data -/

theorem find_eq_none {m : Memory} {k : Nat} (h : ∀ c ∈ m, c.1 ≠ k) : find m k = none := by
  induction m with
  | nil => rfl
  | cons c m ih =>
    simp only [find, h c List.mem_cons_self, if_false]
    exact ih fun d hd => h d (List.mem_cons_of_mem _ hd)

theorem find_of_mem {m : Memory} (h : m.Pairwise fun c d => c.1 < d.1) {c : Host.Cell} (hc : c ∈ m) :
    find m c.1 = some c.2 := by
  induction m with
  | nil => simp at hc
  | cons d m ih =>
    obtain ⟨hd, hm⟩ := List.pairwise_cons.1 h
    rcases List.mem_cons.1 hc with rfl | hc
    · simp [find]
    · simp [find, (hd c hc).ne, ih hm hc]

theorem mem_of_find {m : Memory} {k : Nat} {v : Byte} (h : find m k = some v) : (k, v) ∈ m := by
  induction m with
  | nil => simp [find] at h
  | cons d m ih =>
    by_cases hd : d.1 = k
    · rw [find_cons, if_pos hd, Option.some.injEq] at h
      rw [← hd, ← h]
      exact List.mem_cons_self
    · exact List.mem_cons_of_mem _ (ih (by simpa [find, hd] using h))

/-- Two memories in canonical form that read alike everywhere are the same list. -/
theorem ext_of_wf {m n : Memory} (hm : wf m = true) (hn : wf n = true) (h : ∀ a, read m a = read n a) : m = n := by
  obtain ⟨pm, vm⟩ := (wf_iff m).1 hm
  obtain ⟨pn, vn⟩ := (wf_iff n).1 hn
  have half : ∀ {m n : Memory}, (m.Pairwise fun c d => c.1 < d.1) →
      (∀ c ∈ m, c.1 < 65536 ∧ c.2 ≠ Config.unlistedByte) → (∀ a, read m a = read n a) → ∀ c ∈ m, c ∈ n := by
    intro m n pm vm h c hc
    have hr := h (BitVec.ofNat 16 c.1)
    have hk : (BitVec.ofNat 16 c.1).toNat = c.1 := by
      simp [Nat.mod_eq_of_lt (vm c hc).1]
    unfold read at hr
    rw [hk, find_of_mem pm hc] at hr
    cases hf : find n c.1 with
    | none => simp [hf] at hr; exact absurd hr (vm c hc).2
    | some v =>
      simp [hf] at hr
      have := mem_of_find hf
      rwa [← hr] at this
  have hperm : m.Perm n := by
    refine (List.perm_ext_iff_of_nodup ?_ ?_).2 fun c => ⟨half pm vm h c, half pn vn (fun a => (h a).symm) c⟩
    · exact pm.imp fun hlt heq => by simp [heq] at hlt
    · exact pn.imp fun hlt heq => by simp [heq] at hlt
  exact hperm.eq_of_pairwise (fun _ _ _ _ hlt hgt => absurd (lt_trans hlt hgt) (lt_irrefl _)) pm pn

end Sys2Proof.Machine.Memory
end

