-- ==== Sys2Proof/Laws/State.lean ====
section
/-! SUPPORT. One lemma per field and update of State, by `rfl`, so that no proof unfolds a record update; then what the
register views (R21 to R24) read after each update. -/

namespace Sys2Proof.Machine

/-! ### `tick` -/

@[simp] theorem State.tick_af (s : State) (m : MCycle) : (s.tick m).af = s.af := rfl
@[simp] theorem State.tick_bc (s : State) (m : MCycle) : (s.tick m).bc = s.bc := rfl
@[simp] theorem State.tick_de (s : State) (m : MCycle) : (s.tick m).de = s.de := rfl
@[simp] theorem State.tick_hl (s : State) (m : MCycle) : (s.tick m).hl = s.hl := rfl
@[simp] theorem State.tick_sp (s : State) (m : MCycle) : (s.tick m).sp = s.sp := rfl
@[simp] theorem State.tick_pc (s : State) (m : MCycle) : (s.tick m).pc = s.pc := rfl
@[simp] theorem State.tick_ime (s : State) (m : MCycle) : (s.tick m).ime = s.ime := rfl
@[simp] theorem State.tick_halted (s : State) (m : MCycle) : (s.tick m).halted = s.halted := rfl
@[simp] theorem State.tick_faulted (s : State) (m : MCycle) : (s.tick m).faulted = s.faulted := rfl
@[simp] theorem State.tick_faultOpcode (s : State) (m : MCycle) : (s.tick m).faultOpcode = s.faultOpcode := rfl
@[simp] theorem State.tick_mem (s : State) (m : MCycle) : (s.tick m).mem = s.mem := rfl
@[simp] theorem State.tick_cycles (s : State) (m : MCycle) : (s.tick m).cycles = m :: s.cycles := rfl
@[simp] theorem State.tick_env (s : State) (m : MCycle) : (s.tick m).env = s.env := rfl

/-! ### `afterRead` -/

@[simp] theorem State.afterRead_af (s : State) (a : Word) : (s.afterRead a).af = s.af := rfl
@[simp] theorem State.afterRead_bc (s : State) (a : Word) : (s.afterRead a).bc = s.bc := rfl
@[simp] theorem State.afterRead_de (s : State) (a : Word) : (s.afterRead a).de = s.de := rfl
@[simp] theorem State.afterRead_hl (s : State) (a : Word) : (s.afterRead a).hl = s.hl := rfl
@[simp] theorem State.afterRead_sp (s : State) (a : Word) : (s.afterRead a).sp = s.sp := rfl
@[simp] theorem State.afterRead_pc (s : State) (a : Word) : (s.afterRead a).pc = s.pc := rfl
@[simp] theorem State.afterRead_ime (s : State) (a : Word) : (s.afterRead a).ime = s.ime := rfl
@[simp] theorem State.afterRead_halted (s : State) (a : Word) : (s.afterRead a).halted = s.halted := rfl
@[simp] theorem State.afterRead_faulted (s : State) (a : Word) : (s.afterRead a).faulted = s.faulted := rfl
@[simp] theorem State.afterRead_faultOpcode (s : State) (a : Word) : (s.afterRead a).faultOpcode = s.faultOpcode := rfl
@[simp] theorem State.afterRead_mem (s : State) (a : Word) : (s.afterRead a).mem = s.mem := rfl
@[simp] theorem State.afterRead_cycles (s : State) (a : Word) : (s.afterRead a).cycles = .read a (Memory.read s.mem a) :: s.cycles := rfl
@[simp] theorem State.afterRead_env (s : State) (a : Word) : (s.afterRead a).env = s.env := rfl

/-! ### `afterWrite` -/

@[simp] theorem State.afterWrite_af (s : State) (a : Word) (v : Byte) : (s.afterWrite a v).af = s.af := rfl
@[simp] theorem State.afterWrite_bc (s : State) (a : Word) (v : Byte) : (s.afterWrite a v).bc = s.bc := rfl
@[simp] theorem State.afterWrite_de (s : State) (a : Word) (v : Byte) : (s.afterWrite a v).de = s.de := rfl
@[simp] theorem State.afterWrite_hl (s : State) (a : Word) (v : Byte) : (s.afterWrite a v).hl = s.hl := rfl
@[simp] theorem State.afterWrite_sp (s : State) (a : Word) (v : Byte) : (s.afterWrite a v).sp = s.sp := rfl
@[simp] theorem State.afterWrite_pc (s : State) (a : Word) (v : Byte) : (s.afterWrite a v).pc = s.pc := rfl
@[simp] theorem State.afterWrite_ime (s : State) (a : Word) (v : Byte) : (s.afterWrite a v).ime = s.ime := rfl
@[simp] theorem State.afterWrite_halted (s : State) (a : Word) (v : Byte) : (s.afterWrite a v).halted = s.halted := rfl
@[simp] theorem State.afterWrite_faulted (s : State) (a : Word) (v : Byte) : (s.afterWrite a v).faulted = s.faulted := rfl
@[simp] theorem State.afterWrite_faultOpcode (s : State) (a : Word) (v : Byte) : (s.afterWrite a v).faultOpcode = s.faultOpcode := rfl
@[simp] theorem State.afterWrite_mem (s : State) (a : Word) (v : Byte) : (s.afterWrite a v).mem = Memory.write s.mem a v := rfl
@[simp] theorem State.afterWrite_cycles (s : State) (a : Word) (v : Byte) : (s.afterWrite a v).cycles = .write a v :: s.cycles := rfl
@[simp] theorem State.afterWrite_env (s : State) (a : Word) (v : Byte) : (s.afterWrite a v).env = s.env := rfl

/-! ### `afterInternal` -/

@[simp] theorem State.afterInternal_af (s : State) : (s.afterInternal).af = s.af := rfl
@[simp] theorem State.afterInternal_bc (s : State) : (s.afterInternal).bc = s.bc := rfl
@[simp] theorem State.afterInternal_de (s : State) : (s.afterInternal).de = s.de := rfl
@[simp] theorem State.afterInternal_hl (s : State) : (s.afterInternal).hl = s.hl := rfl
@[simp] theorem State.afterInternal_sp (s : State) : (s.afterInternal).sp = s.sp := rfl
@[simp] theorem State.afterInternal_pc (s : State) : (s.afterInternal).pc = s.pc := rfl
@[simp] theorem State.afterInternal_ime (s : State) : (s.afterInternal).ime = s.ime := rfl
@[simp] theorem State.afterInternal_halted (s : State) : (s.afterInternal).halted = s.halted := rfl
@[simp] theorem State.afterInternal_faulted (s : State) : (s.afterInternal).faulted = s.faulted := rfl
@[simp] theorem State.afterInternal_faultOpcode (s : State) : (s.afterInternal).faultOpcode = s.faultOpcode := rfl
@[simp] theorem State.afterInternal_mem (s : State) : (s.afterInternal).mem = s.mem := rfl
@[simp] theorem State.afterInternal_cycles (s : State) : (s.afterInternal).cycles = .internal :: s.cycles := rfl
@[simp] theorem State.afterInternal_env (s : State) : (s.afterInternal).env = s.env := rfl

/-! ### `setAF` -/

@[simp] theorem State.setAF_af (s : State) (w : Word) : (s.setAF w).af = w &&& 0xFFF0 := rfl
@[simp] theorem State.setAF_bc (s : State) (w : Word) : (s.setAF w).bc = s.bc := rfl
@[simp] theorem State.setAF_de (s : State) (w : Word) : (s.setAF w).de = s.de := rfl
@[simp] theorem State.setAF_hl (s : State) (w : Word) : (s.setAF w).hl = s.hl := rfl
@[simp] theorem State.setAF_sp (s : State) (w : Word) : (s.setAF w).sp = s.sp := rfl
@[simp] theorem State.setAF_pc (s : State) (w : Word) : (s.setAF w).pc = s.pc := rfl
@[simp] theorem State.setAF_ime (s : State) (w : Word) : (s.setAF w).ime = s.ime := rfl
@[simp] theorem State.setAF_halted (s : State) (w : Word) : (s.setAF w).halted = s.halted := rfl
@[simp] theorem State.setAF_faulted (s : State) (w : Word) : (s.setAF w).faulted = s.faulted := rfl
@[simp] theorem State.setAF_faultOpcode (s : State) (w : Word) : (s.setAF w).faultOpcode = s.faultOpcode := rfl
@[simp] theorem State.setAF_mem (s : State) (w : Word) : (s.setAF w).mem = s.mem := rfl
@[simp] theorem State.setAF_cycles (s : State) (w : Word) : (s.setAF w).cycles = s.cycles := rfl
@[simp] theorem State.setAF_env (s : State) (w : Word) : (s.setAF w).env = s.env := rfl

/-! ### `setF` -/

@[simp] theorem State.setF_af (s : State) (v : Byte) : (s.setF v).af = mk16 (hi s.af) v &&& 0xFFF0 := rfl
@[simp] theorem State.setF_bc (s : State) (v : Byte) : (s.setF v).bc = s.bc := rfl
@[simp] theorem State.setF_de (s : State) (v : Byte) : (s.setF v).de = s.de := rfl
@[simp] theorem State.setF_hl (s : State) (v : Byte) : (s.setF v).hl = s.hl := rfl
@[simp] theorem State.setF_sp (s : State) (v : Byte) : (s.setF v).sp = s.sp := rfl
@[simp] theorem State.setF_pc (s : State) (v : Byte) : (s.setF v).pc = s.pc := rfl
@[simp] theorem State.setF_ime (s : State) (v : Byte) : (s.setF v).ime = s.ime := rfl
@[simp] theorem State.setF_halted (s : State) (v : Byte) : (s.setF v).halted = s.halted := rfl
@[simp] theorem State.setF_faulted (s : State) (v : Byte) : (s.setF v).faulted = s.faulted := rfl
@[simp] theorem State.setF_faultOpcode (s : State) (v : Byte) : (s.setF v).faultOpcode = s.faultOpcode := rfl
@[simp] theorem State.setF_mem (s : State) (v : Byte) : (s.setF v).mem = s.mem := rfl
@[simp] theorem State.setF_cycles (s : State) (v : Byte) : (s.setF v).cycles = s.cycles := rfl
@[simp] theorem State.setF_env (s : State) (v : Byte) : (s.setF v).env = s.env := rfl

/-! ### `setFlags` -/

@[simp] theorem State.setFlags_af (s : State) (fl : Flags) : (s.setFlags fl).af = mk16 (hi s.af) fl.toByte &&& 0xFFF0 := rfl
@[simp] theorem State.setFlags_bc (s : State) (fl : Flags) : (s.setFlags fl).bc = s.bc := rfl
@[simp] theorem State.setFlags_de (s : State) (fl : Flags) : (s.setFlags fl).de = s.de := rfl
@[simp] theorem State.setFlags_hl (s : State) (fl : Flags) : (s.setFlags fl).hl = s.hl := rfl
@[simp] theorem State.setFlags_sp (s : State) (fl : Flags) : (s.setFlags fl).sp = s.sp := rfl
@[simp] theorem State.setFlags_pc (s : State) (fl : Flags) : (s.setFlags fl).pc = s.pc := rfl
@[simp] theorem State.setFlags_ime (s : State) (fl : Flags) : (s.setFlags fl).ime = s.ime := rfl
@[simp] theorem State.setFlags_halted (s : State) (fl : Flags) : (s.setFlags fl).halted = s.halted := rfl
@[simp] theorem State.setFlags_faulted (s : State) (fl : Flags) : (s.setFlags fl).faulted = s.faulted := rfl
@[simp] theorem State.setFlags_faultOpcode (s : State) (fl : Flags) : (s.setFlags fl).faultOpcode = s.faultOpcode := rfl
@[simp] theorem State.setFlags_mem (s : State) (fl : Flags) : (s.setFlags fl).mem = s.mem := rfl
@[simp] theorem State.setFlags_cycles (s : State) (fl : Flags) : (s.setFlags fl).cycles = s.cycles := rfl
@[simp] theorem State.setFlags_env (s : State) (fl : Flags) : (s.setFlags fl).env = s.env := rfl

/-! ### `setR8` -/

@[simp] theorem State.setR8_sp (s : State) (r : Reg8) (v : Byte) : (s.setR8 r v).sp = s.sp := by cases r <;> rfl
@[simp] theorem State.setR8_pc (s : State) (r : Reg8) (v : Byte) : (s.setR8 r v).pc = s.pc := by cases r <;> rfl
@[simp] theorem State.setR8_ime (s : State) (r : Reg8) (v : Byte) : (s.setR8 r v).ime = s.ime := by cases r <;> rfl
@[simp] theorem State.setR8_halted (s : State) (r : Reg8) (v : Byte) : (s.setR8 r v).halted = s.halted := by cases r <;> rfl
@[simp] theorem State.setR8_faulted (s : State) (r : Reg8) (v : Byte) : (s.setR8 r v).faulted = s.faulted := by cases r <;> rfl
@[simp] theorem State.setR8_faultOpcode (s : State) (r : Reg8) (v : Byte) : (s.setR8 r v).faultOpcode = s.faultOpcode := by cases r <;> rfl
@[simp] theorem State.setR8_mem (s : State) (r : Reg8) (v : Byte) : (s.setR8 r v).mem = s.mem := by cases r <;> rfl
@[simp] theorem State.setR8_cycles (s : State) (r : Reg8) (v : Byte) : (s.setR8 r v).cycles = s.cycles := by cases r <;> rfl
@[simp] theorem State.setR8_env (s : State) (r : Reg8) (v : Byte) : (s.setR8 r v).env = s.env := by cases r <;> rfl

/-! ### `setPair` -/

@[simp] theorem State.setPair_af (s : State) (p : Pair) (w : Word) : (s.setPair p w).af = s.af := by cases p <;> rfl
@[simp] theorem State.setPair_pc (s : State) (p : Pair) (w : Word) : (s.setPair p w).pc = s.pc := by cases p <;> rfl
@[simp] theorem State.setPair_ime (s : State) (p : Pair) (w : Word) : (s.setPair p w).ime = s.ime := by cases p <;> rfl
@[simp] theorem State.setPair_halted (s : State) (p : Pair) (w : Word) : (s.setPair p w).halted = s.halted := by cases p <;> rfl
@[simp] theorem State.setPair_faulted (s : State) (p : Pair) (w : Word) : (s.setPair p w).faulted = s.faulted := by cases p <;> rfl
@[simp] theorem State.setPair_faultOpcode (s : State) (p : Pair) (w : Word) : (s.setPair p w).faultOpcode = s.faultOpcode := by cases p <;> rfl
@[simp] theorem State.setPair_mem (s : State) (p : Pair) (w : Word) : (s.setPair p w).mem = s.mem := by cases p <;> rfl
@[simp] theorem State.setPair_cycles (s : State) (p : Pair) (w : Word) : (s.setPair p w).cycles = s.cycles := by cases p <;> rfl
@[simp] theorem State.setPair_env (s : State) (p : Pair) (w : Word) : (s.setPair p w).env = s.env := by cases p <;> rfl

/-! ### `setStackPair` -/

@[simp] theorem State.setStackPair_sp (s : State) (q : StackPair) (w : Word) : (s.setStackPair q w).sp = s.sp := by cases q <;> rfl
@[simp] theorem State.setStackPair_pc (s : State) (q : StackPair) (w : Word) : (s.setStackPair q w).pc = s.pc := by cases q <;> rfl
@[simp] theorem State.setStackPair_ime (s : State) (q : StackPair) (w : Word) : (s.setStackPair q w).ime = s.ime := by cases q <;> rfl
@[simp] theorem State.setStackPair_halted (s : State) (q : StackPair) (w : Word) : (s.setStackPair q w).halted = s.halted := by cases q <;> rfl
@[simp] theorem State.setStackPair_faulted (s : State) (q : StackPair) (w : Word) : (s.setStackPair q w).faulted = s.faulted := by cases q <;> rfl
@[simp] theorem State.setStackPair_faultOpcode (s : State) (q : StackPair) (w : Word) : (s.setStackPair q w).faultOpcode = s.faultOpcode := by cases q <;> rfl
@[simp] theorem State.setStackPair_mem (s : State) (q : StackPair) (w : Word) : (s.setStackPair q w).mem = s.mem := by cases q <;> rfl
@[simp] theorem State.setStackPair_cycles (s : State) (q : StackPair) (w : Word) : (s.setStackPair q w).cycles = s.cycles := by cases q <;> rfl
@[simp] theorem State.setStackPair_env (s : State) (q : StackPair) (w : Word) : (s.setStackPair q w).env = s.env := by cases q <;> rfl

/-! ### `setHL` -/

@[simp] theorem State.setHL_af (s : State) (w : Word) : (s.setHL w).af = s.af := rfl
@[simp] theorem State.setHL_bc (s : State) (w : Word) : (s.setHL w).bc = s.bc := rfl
@[simp] theorem State.setHL_de (s : State) (w : Word) : (s.setHL w).de = s.de := rfl
@[simp] theorem State.setHL_hl (s : State) (w : Word) : (s.setHL w).hl = w := rfl
@[simp] theorem State.setHL_sp (s : State) (w : Word) : (s.setHL w).sp = s.sp := rfl
@[simp] theorem State.setHL_pc (s : State) (w : Word) : (s.setHL w).pc = s.pc := rfl
@[simp] theorem State.setHL_ime (s : State) (w : Word) : (s.setHL w).ime = s.ime := rfl
@[simp] theorem State.setHL_halted (s : State) (w : Word) : (s.setHL w).halted = s.halted := rfl
@[simp] theorem State.setHL_faulted (s : State) (w : Word) : (s.setHL w).faulted = s.faulted := rfl
@[simp] theorem State.setHL_faultOpcode (s : State) (w : Word) : (s.setHL w).faultOpcode = s.faultOpcode := rfl
@[simp] theorem State.setHL_mem (s : State) (w : Word) : (s.setHL w).mem = s.mem := rfl
@[simp] theorem State.setHL_cycles (s : State) (w : Word) : (s.setHL w).cycles = s.cycles := rfl
@[simp] theorem State.setHL_env (s : State) (w : Word) : (s.setHL w).env = s.env := rfl

/-! ### `setSP` -/

@[simp] theorem State.setSP_af (s : State) (w : Word) : (s.setSP w).af = s.af := rfl
@[simp] theorem State.setSP_bc (s : State) (w : Word) : (s.setSP w).bc = s.bc := rfl
@[simp] theorem State.setSP_de (s : State) (w : Word) : (s.setSP w).de = s.de := rfl
@[simp] theorem State.setSP_hl (s : State) (w : Word) : (s.setSP w).hl = s.hl := rfl
@[simp] theorem State.setSP_sp (s : State) (w : Word) : (s.setSP w).sp = w := rfl
@[simp] theorem State.setSP_pc (s : State) (w : Word) : (s.setSP w).pc = s.pc := rfl
@[simp] theorem State.setSP_ime (s : State) (w : Word) : (s.setSP w).ime = s.ime := rfl
@[simp] theorem State.setSP_halted (s : State) (w : Word) : (s.setSP w).halted = s.halted := rfl
@[simp] theorem State.setSP_faulted (s : State) (w : Word) : (s.setSP w).faulted = s.faulted := rfl
@[simp] theorem State.setSP_faultOpcode (s : State) (w : Word) : (s.setSP w).faultOpcode = s.faultOpcode := rfl
@[simp] theorem State.setSP_mem (s : State) (w : Word) : (s.setSP w).mem = s.mem := rfl
@[simp] theorem State.setSP_cycles (s : State) (w : Word) : (s.setSP w).cycles = s.cycles := rfl
@[simp] theorem State.setSP_env (s : State) (w : Word) : (s.setSP w).env = s.env := rfl

/-! ### `setPC` -/

@[simp] theorem State.setPC_af (s : State) (w : Word) : (s.setPC w).af = s.af := rfl
@[simp] theorem State.setPC_bc (s : State) (w : Word) : (s.setPC w).bc = s.bc := rfl
@[simp] theorem State.setPC_de (s : State) (w : Word) : (s.setPC w).de = s.de := rfl
@[simp] theorem State.setPC_hl (s : State) (w : Word) : (s.setPC w).hl = s.hl := rfl
@[simp] theorem State.setPC_sp (s : State) (w : Word) : (s.setPC w).sp = s.sp := rfl
@[simp] theorem State.setPC_pc (s : State) (w : Word) : (s.setPC w).pc = w := rfl
@[simp] theorem State.setPC_ime (s : State) (w : Word) : (s.setPC w).ime = s.ime := rfl
@[simp] theorem State.setPC_halted (s : State) (w : Word) : (s.setPC w).halted = s.halted := rfl
@[simp] theorem State.setPC_faulted (s : State) (w : Word) : (s.setPC w).faulted = s.faulted := rfl
@[simp] theorem State.setPC_faultOpcode (s : State) (w : Word) : (s.setPC w).faultOpcode = s.faultOpcode := rfl
@[simp] theorem State.setPC_mem (s : State) (w : Word) : (s.setPC w).mem = s.mem := rfl
@[simp] theorem State.setPC_cycles (s : State) (w : Word) : (s.setPC w).cycles = s.cycles := rfl
@[simp] theorem State.setPC_env (s : State) (w : Word) : (s.setPC w).env = s.env := rfl

/-! ### `setIME` -/

@[simp] theorem State.setIME_af (s : State) (b : Bool) : (s.setIME b).af = s.af := rfl
@[simp] theorem State.setIME_bc (s : State) (b : Bool) : (s.setIME b).bc = s.bc := rfl
@[simp] theorem State.setIME_de (s : State) (b : Bool) : (s.setIME b).de = s.de := rfl
@[simp] theorem State.setIME_hl (s : State) (b : Bool) : (s.setIME b).hl = s.hl := rfl
@[simp] theorem State.setIME_sp (s : State) (b : Bool) : (s.setIME b).sp = s.sp := rfl
@[simp] theorem State.setIME_pc (s : State) (b : Bool) : (s.setIME b).pc = s.pc := rfl
@[simp] theorem State.setIME_ime (s : State) (b : Bool) : (s.setIME b).ime = b := rfl
@[simp] theorem State.setIME_halted (s : State) (b : Bool) : (s.setIME b).halted = s.halted := rfl
@[simp] theorem State.setIME_faulted (s : State) (b : Bool) : (s.setIME b).faulted = s.faulted := rfl
@[simp] theorem State.setIME_faultOpcode (s : State) (b : Bool) : (s.setIME b).faultOpcode = s.faultOpcode := rfl
@[simp] theorem State.setIME_mem (s : State) (b : Bool) : (s.setIME b).mem = s.mem := rfl
@[simp] theorem State.setIME_cycles (s : State) (b : Bool) : (s.setIME b).cycles = s.cycles := rfl
@[simp] theorem State.setIME_env (s : State) (b : Bool) : (s.setIME b).env = s.env := rfl

/-! ### `setHalted` -/

@[simp] theorem State.setHalted_af (s : State) (b : Bool) : (s.setHalted b).af = s.af := rfl
@[simp] theorem State.setHalted_bc (s : State) (b : Bool) : (s.setHalted b).bc = s.bc := rfl
@[simp] theorem State.setHalted_de (s : State) (b : Bool) : (s.setHalted b).de = s.de := rfl
@[simp] theorem State.setHalted_hl (s : State) (b : Bool) : (s.setHalted b).hl = s.hl := rfl
@[simp] theorem State.setHalted_sp (s : State) (b : Bool) : (s.setHalted b).sp = s.sp := rfl
@[simp] theorem State.setHalted_pc (s : State) (b : Bool) : (s.setHalted b).pc = s.pc := rfl
@[simp] theorem State.setHalted_ime (s : State) (b : Bool) : (s.setHalted b).ime = s.ime := rfl
@[simp] theorem State.setHalted_halted (s : State) (b : Bool) : (s.setHalted b).halted = b := rfl
@[simp] theorem State.setHalted_faulted (s : State) (b : Bool) : (s.setHalted b).faulted = s.faulted := rfl
@[simp] theorem State.setHalted_faultOpcode (s : State) (b : Bool) : (s.setHalted b).faultOpcode = s.faultOpcode := rfl
@[simp] theorem State.setHalted_mem (s : State) (b : Bool) : (s.setHalted b).mem = s.mem := rfl
@[simp] theorem State.setHalted_cycles (s : State) (b : Bool) : (s.setHalted b).cycles = s.cycles := rfl
@[simp] theorem State.setHalted_env (s : State) (b : Bool) : (s.setHalted b).env = s.env := rfl

/-! ### `raiseUnsupportedOpcode` -/

@[simp] theorem State.raiseUnsupportedOpcode_af (s : State) (b : Byte) : (s.raiseUnsupportedOpcode b).af = s.af := rfl
@[simp] theorem State.raiseUnsupportedOpcode_bc (s : State) (b : Byte) : (s.raiseUnsupportedOpcode b).bc = s.bc := rfl
@[simp] theorem State.raiseUnsupportedOpcode_de (s : State) (b : Byte) : (s.raiseUnsupportedOpcode b).de = s.de := rfl
@[simp] theorem State.raiseUnsupportedOpcode_hl (s : State) (b : Byte) : (s.raiseUnsupportedOpcode b).hl = s.hl := rfl
@[simp] theorem State.raiseUnsupportedOpcode_sp (s : State) (b : Byte) : (s.raiseUnsupportedOpcode b).sp = s.sp := rfl
@[simp] theorem State.raiseUnsupportedOpcode_pc (s : State) (b : Byte) : (s.raiseUnsupportedOpcode b).pc = s.pc := rfl
@[simp] theorem State.raiseUnsupportedOpcode_ime (s : State) (b : Byte) : (s.raiseUnsupportedOpcode b).ime = s.ime := rfl
@[simp] theorem State.raiseUnsupportedOpcode_halted (s : State) (b : Byte) : (s.raiseUnsupportedOpcode b).halted = s.halted := rfl
@[simp] theorem State.raiseUnsupportedOpcode_faulted (s : State) (b : Byte) : (s.raiseUnsupportedOpcode b).faulted = true := rfl
@[simp] theorem State.raiseUnsupportedOpcode_faultOpcode (s : State) (b : Byte) : (s.raiseUnsupportedOpcode b).faultOpcode = b := rfl
@[simp] theorem State.raiseUnsupportedOpcode_mem (s : State) (b : Byte) : (s.raiseUnsupportedOpcode b).mem = s.mem := rfl
@[simp] theorem State.raiseUnsupportedOpcode_cycles (s : State) (b : Byte) : (s.raiseUnsupportedOpcode b).cycles = s.cycles := rfl
@[simp] theorem State.raiseUnsupportedOpcode_env (s : State) (b : Byte) : (s.raiseUnsupportedOpcode b).env = s.env := rfl

/-! ### `agentWrite` -/

@[simp] theorem State.agentWrite_af (s : State) (a : Word) (v : Byte) : (s.agentWrite a v).af = s.af := rfl
@[simp] theorem State.agentWrite_bc (s : State) (a : Word) (v : Byte) : (s.agentWrite a v).bc = s.bc := rfl
@[simp] theorem State.agentWrite_de (s : State) (a : Word) (v : Byte) : (s.agentWrite a v).de = s.de := rfl
@[simp] theorem State.agentWrite_hl (s : State) (a : Word) (v : Byte) : (s.agentWrite a v).hl = s.hl := rfl
@[simp] theorem State.agentWrite_sp (s : State) (a : Word) (v : Byte) : (s.agentWrite a v).sp = s.sp := rfl
@[simp] theorem State.agentWrite_pc (s : State) (a : Word) (v : Byte) : (s.agentWrite a v).pc = s.pc := rfl
@[simp] theorem State.agentWrite_ime (s : State) (a : Word) (v : Byte) : (s.agentWrite a v).ime = s.ime := rfl
@[simp] theorem State.agentWrite_halted (s : State) (a : Word) (v : Byte) : (s.agentWrite a v).halted = s.halted := rfl
@[simp] theorem State.agentWrite_faulted (s : State) (a : Word) (v : Byte) : (s.agentWrite a v).faulted = s.faulted := rfl
@[simp] theorem State.agentWrite_faultOpcode (s : State) (a : Word) (v : Byte) : (s.agentWrite a v).faultOpcode = s.faultOpcode := rfl
@[simp] theorem State.agentWrite_mem (s : State) (a : Word) (v : Byte) : (s.agentWrite a v).mem = Memory.write s.mem a v := rfl
@[simp] theorem State.agentWrite_cycles (s : State) (a : Word) (v : Byte) : (s.agentWrite a v).cycles = s.cycles := rfl
@[simp] theorem State.agentWrite_env (s : State) (a : Word) (v : Byte) : (s.agentWrite a v).env = s.env := rfl

/-! ### `resetCoreWith` -/

@[simp] theorem State.resetCoreWith_af (s : State) (p : Config.Params) : (s.resetCoreWith p).af = p.resetAF &&& 0xFFF0 := rfl
@[simp] theorem State.resetCoreWith_bc (s : State) (p : Config.Params) : (s.resetCoreWith p).bc = p.resetBC := rfl
@[simp] theorem State.resetCoreWith_de (s : State) (p : Config.Params) : (s.resetCoreWith p).de = p.resetDE := rfl
@[simp] theorem State.resetCoreWith_hl (s : State) (p : Config.Params) : (s.resetCoreWith p).hl = p.resetHL := rfl
@[simp] theorem State.resetCoreWith_sp (s : State) (p : Config.Params) : (s.resetCoreWith p).sp = p.resetSP := rfl
@[simp] theorem State.resetCoreWith_pc (s : State) (p : Config.Params) : (s.resetCoreWith p).pc = p.resetPC := rfl
@[simp] theorem State.resetCoreWith_ime (s : State) (p : Config.Params) : (s.resetCoreWith p).ime = p.resetIME := rfl
@[simp] theorem State.resetCoreWith_halted (s : State) (p : Config.Params) : (s.resetCoreWith p).halted = p.resetHalted := rfl
@[simp] theorem State.resetCoreWith_faulted (s : State) (p : Config.Params) : (s.resetCoreWith p).faulted = false := rfl
@[simp] theorem State.resetCoreWith_faultOpcode (s : State) (p : Config.Params) : (s.resetCoreWith p).faultOpcode = Config.resetFaultOpcode := rfl
@[simp] theorem State.resetCoreWith_mem (s : State) (p : Config.Params) : (s.resetCoreWith p).mem = s.mem := rfl
@[simp] theorem State.resetCoreWith_cycles (s : State) (p : Config.Params) : (s.resetCoreWith p).cycles = s.cycles := rfl
@[simp] theorem State.resetCoreWith_env (s : State) (p : Config.Params) : (s.resetCoreWith p).env = s.env := rfl

/-! ### `resetCore` -/

@[simp] theorem State.resetCore_af (s : State) : (s.resetCore).af = 0x01B0 := rfl
@[simp] theorem State.resetCore_bc (s : State) : (s.resetCore).bc = 0x0013 := rfl
@[simp] theorem State.resetCore_de (s : State) : (s.resetCore).de = 0x00D8 := rfl
@[simp] theorem State.resetCore_hl (s : State) : (s.resetCore).hl = 0x014D := rfl
@[simp] theorem State.resetCore_sp (s : State) : (s.resetCore).sp = 0xFFFE := rfl
@[simp] theorem State.resetCore_pc (s : State) : (s.resetCore).pc = 0x0100 := rfl
@[simp] theorem State.resetCore_ime (s : State) : (s.resetCore).ime = false := rfl
@[simp] theorem State.resetCore_halted (s : State) : (s.resetCore).halted = false := rfl
@[simp] theorem State.resetCore_faulted (s : State) : (s.resetCore).faulted = false := rfl
@[simp] theorem State.resetCore_faultOpcode (s : State) : (s.resetCore).faultOpcode = Config.resetFaultOpcode := rfl
@[simp] theorem State.resetCore_mem (s : State) : (s.resetCore).mem = s.mem := rfl
@[simp] theorem State.resetCore_cycles (s : State) : (s.resetCore).cycles = s.cycles := rfl
@[simp] theorem State.resetCore_env (s : State) : (s.resetCore).env = s.env := rfl

/-! ### `accUpdate` -/

@[simp] theorem State.accUpdate_af (s : State) (m : AccMode) : (s.accUpdate m).af = s.af := by cases m <;> rfl
@[simp] theorem State.accUpdate_bc (s : State) (m : AccMode) : (s.accUpdate m).bc = s.bc := by cases m <;> rfl
@[simp] theorem State.accUpdate_de (s : State) (m : AccMode) : (s.accUpdate m).de = s.de := by cases m <;> rfl
@[simp] theorem State.accUpdate_sp (s : State) (m : AccMode) : (s.accUpdate m).sp = s.sp := by cases m <;> rfl
@[simp] theorem State.accUpdate_pc (s : State) (m : AccMode) : (s.accUpdate m).pc = s.pc := by cases m <;> rfl
@[simp] theorem State.accUpdate_ime (s : State) (m : AccMode) : (s.accUpdate m).ime = s.ime := by cases m <;> rfl
@[simp] theorem State.accUpdate_halted (s : State) (m : AccMode) : (s.accUpdate m).halted = s.halted := by cases m <;> rfl
@[simp] theorem State.accUpdate_faulted (s : State) (m : AccMode) : (s.accUpdate m).faulted = s.faulted := by cases m <;> rfl
@[simp] theorem State.accUpdate_faultOpcode (s : State) (m : AccMode) : (s.accUpdate m).faultOpcode = s.faultOpcode := by cases m <;> rfl
@[simp] theorem State.accUpdate_mem (s : State) (m : AccMode) : (s.accUpdate m).mem = s.mem := by cases m <;> rfl
@[simp] theorem State.accUpdate_cycles (s : State) (m : AccMode) : (s.accUpdate m).cycles = s.cycles := by cases m <;> rfl
@[simp] theorem State.accUpdate_env (s : State) (m : AccMode) : (s.accUpdate m).env = s.env := by cases m <;> rfl

/-! ### The views after an update that leaves the pairs alone -/

@[simp] theorem State.tick_r8 (s : State) (m : MCycle) (x : Reg8) : (s.tick m).r8 x = s.r8 x := by cases x <;> rfl
@[simp] theorem State.tick_f (s : State) (m : MCycle) : (s.tick m).f = s.f := rfl
@[simp] theorem State.tick_flags (s : State) (m : MCycle) : (s.tick m).flags = s.flags := rfl
@[simp] theorem State.afterRead_r8 (s : State) (a : Word) (x : Reg8) : (s.afterRead a).r8 x = s.r8 x := by cases x <;> rfl
@[simp] theorem State.afterRead_f (s : State) (a : Word) : (s.afterRead a).f = s.f := rfl
@[simp] theorem State.afterRead_flags (s : State) (a : Word) : (s.afterRead a).flags = s.flags := rfl
@[simp] theorem State.afterWrite_r8 (s : State) (a : Word) (v : Byte) (x : Reg8) : (s.afterWrite a v).r8 x = s.r8 x := by cases x <;> rfl
@[simp] theorem State.afterWrite_f (s : State) (a : Word) (v : Byte) : (s.afterWrite a v).f = s.f := rfl
@[simp] theorem State.afterWrite_flags (s : State) (a : Word) (v : Byte) : (s.afterWrite a v).flags = s.flags := rfl
@[simp] theorem State.afterInternal_r8 (s : State) (x : Reg8) : (s.afterInternal).r8 x = s.r8 x := by cases x <;> rfl
@[simp] theorem State.afterInternal_f (s : State) : (s.afterInternal).f = s.f := rfl
@[simp] theorem State.afterInternal_flags (s : State) : (s.afterInternal).flags = s.flags := rfl
@[simp] theorem State.setSP_r8 (s : State) (w : Word) (x : Reg8) : (s.setSP w).r8 x = s.r8 x := by cases x <;> rfl
@[simp] theorem State.setSP_f (s : State) (w : Word) : (s.setSP w).f = s.f := rfl
@[simp] theorem State.setSP_flags (s : State) (w : Word) : (s.setSP w).flags = s.flags := rfl
@[simp] theorem State.setPC_r8 (s : State) (w : Word) (x : Reg8) : (s.setPC w).r8 x = s.r8 x := by cases x <;> rfl
@[simp] theorem State.setPC_f (s : State) (w : Word) : (s.setPC w).f = s.f := rfl
@[simp] theorem State.setPC_flags (s : State) (w : Word) : (s.setPC w).flags = s.flags := rfl
@[simp] theorem State.setIME_r8 (s : State) (b : Bool) (x : Reg8) : (s.setIME b).r8 x = s.r8 x := by cases x <;> rfl
@[simp] theorem State.setIME_f (s : State) (b : Bool) : (s.setIME b).f = s.f := rfl
@[simp] theorem State.setIME_flags (s : State) (b : Bool) : (s.setIME b).flags = s.flags := rfl
@[simp] theorem State.setHalted_r8 (s : State) (b : Bool) (x : Reg8) : (s.setHalted b).r8 x = s.r8 x := by cases x <;> rfl
@[simp] theorem State.setHalted_f (s : State) (b : Bool) : (s.setHalted b).f = s.f := rfl
@[simp] theorem State.setHalted_flags (s : State) (b : Bool) : (s.setHalted b).flags = s.flags := rfl
@[simp] theorem State.raiseUnsupportedOpcode_r8 (s : State) (b : Byte) (x : Reg8) : (s.raiseUnsupportedOpcode b).r8 x = s.r8 x := by cases x <;> rfl
@[simp] theorem State.raiseUnsupportedOpcode_f (s : State) (b : Byte) : (s.raiseUnsupportedOpcode b).f = s.f := rfl
@[simp] theorem State.raiseUnsupportedOpcode_flags (s : State) (b : Byte) : (s.raiseUnsupportedOpcode b).flags = s.flags := rfl
@[simp] theorem State.agentWrite_r8 (s : State) (a : Word) (v : Byte) (x : Reg8) : (s.agentWrite a v).r8 x = s.r8 x := by cases x <;> rfl
@[simp] theorem State.agentWrite_f (s : State) (a : Word) (v : Byte) : (s.agentWrite a v).f = s.f := rfl
@[simp] theorem State.agentWrite_flags (s : State) (a : Word) (v : Byte) : (s.agentWrite a v).flags = s.flags := rfl

/-! ### `F` (R24) -/

@[simp] theorem State.f_masked (s : State) : s.f &&& 0xF0#8 = s.f := by simp [State.f]

@[simp] theorem State.setAF_f (s : State) (w : Word) : (s.setAF w).f = lo w &&& 0xF0#8 := by simp [State.f]

@[simp] theorem State.setF_f (s : State) (v : Byte) : (s.setF v).f = v &&& 0xF0#8 := by
  rw [State.setF, State.setAF_f, lo_mk16]

@[simp] theorem State.setFlags_f (s : State) (fl : Flags) : (s.setFlags fl).f = fl.toByte := by
  rw [State.setFlags, State.setF_f, Flags.toByte_mask]

@[simp] theorem State.setFlags_flags (s : State) (fl : Flags) : (s.setFlags fl).flags = fl := by
  rw [State.flags, State.setFlags_f, Flags.ofByte_toByte]

theorem State.flags_toByte (s : State) : s.flags.toByte = s.f := by
  rw [State.flags, Flags.toByte_ofByte, State.f_masked]

/-! ### The 8-bit registers (R22) -/

@[simp] theorem State.setAF_r8 (s : State) (w : Word) (x : Reg8) :
    (s.setAF w).r8 x = if x = .A then hi w else s.r8 x := by
  cases x <;> simp [State.r8]

@[simp] theorem State.setF_r8 (s : State) (v : Byte) (x : Reg8) : (s.setF v).r8 x = s.r8 x := by
  cases x <;> simp [State.r8]

@[simp] theorem State.setFlags_r8 (s : State) (fl : Flags) (x : Reg8) : (s.setFlags fl).r8 x = s.r8 x :=
  State.setF_r8 s _ x

@[simp] theorem State.setR8_r8 (s : State) (r : Reg8) (v : Byte) (x : Reg8) :
    (s.setR8 r v).r8 x = if x = r then v else s.r8 x := by
  cases r <;> cases x <;> simp [State.r8, State.setR8]

@[simp] theorem State.setR8_A_bc (s : State) (v : Byte) : (s.setR8 .A v).bc = s.bc := rfl

@[simp] theorem State.setR8_A_de (s : State) (v : Byte) : (s.setR8 .A v).de = s.de := rfl

@[simp] theorem State.setR8_A_hl (s : State) (v : Byte) : (s.setR8 .A v).hl = s.hl := rfl

@[simp] theorem State.setR8_f (s : State) (r : Reg8) (v : Byte) : (s.setR8 r v).f = s.f := by
  cases r <;> first | rfl | simp [State.setR8]

@[simp] theorem State.setR8_flags (s : State) (r : Reg8) (v : Byte) : (s.setR8 r v).flags = s.flags := by
  rw [State.flags, State.setR8_f, State.flags]

@[simp] theorem State.setHL_r8 (s : State) (w : Word) (x : Reg8) :
    (s.setHL w).r8 x = if x = .H then hi w else if x = .L then lo w else s.r8 x := by
  cases x <;> rfl

@[simp] theorem State.setHL_f (s : State) (w : Word) : (s.setHL w).f = s.f := rfl

@[simp] theorem State.setHL_flags (s : State) (w : Word) : (s.setHL w).flags = s.flags := rfl

@[simp] theorem State.setPair_f (s : State) (p : Pair) (w : Word) : (s.setPair p w).f = s.f := by cases p <;> rfl

@[simp] theorem State.setPair_flags (s : State) (p : Pair) (w : Word) : (s.setPair p w).flags = s.flags := by
  cases p <;> rfl

@[simp] theorem State.setPair_pair (s : State) (p : Pair) (w : Word) : (s.setPair p w).pair p = w := by
  cases p <;> rfl

@[simp] theorem State.accUpdate_f (s : State) (m : AccMode) : (s.accUpdate m).f = s.f := by cases m <;> rfl

/-- `HL` is its two bytes. -/
theorem State.hl_eq (s : State) : s.hl = mk16 (s.r8 .H) (s.r8 .L) := (mk16_hi_lo _).symm

/-- `BC` is its two bytes. -/
theorem State.bc_eq (s : State) : s.bc = mk16 (s.r8 .B) (s.r8 .C) := (mk16_hi_lo _).symm

/-- `DE` is its two bytes. -/
theorem State.de_eq (s : State) : s.de = mk16 (s.r8 .D) (s.r8 .E) := (mk16_hi_lo _).symm

/-- `AF` reads as `A` and `F`. -/
theorem State.readAF_eq (s : State) : s.readAF = mk16 (s.r8 .A) s.f := rfl

@[simp] theorem State.setPair_BC_r8 (s : State) (w : Word) (x : Reg8) :
    (s.setPair .BC w).r8 x = if x = .B then hi w else if x = .C then lo w else s.r8 x := by
  cases x <;> rfl

@[simp] theorem State.setStackPair_BC_r8 (s : State) (w : Word) (x : Reg8) :
    (s.setStackPair .BC w).r8 x = if x = .B then hi w else if x = .C then lo w else s.r8 x := by
  cases x <;> rfl

@[simp] theorem State.setPair_DE_r8 (s : State) (w : Word) (x : Reg8) :
    (s.setPair .DE w).r8 x = if x = .D then hi w else if x = .E then lo w else s.r8 x := by
  cases x <;> rfl

@[simp] theorem State.setStackPair_DE_r8 (s : State) (w : Word) (x : Reg8) :
    (s.setStackPair .DE w).r8 x = if x = .D then hi w else if x = .E then lo w else s.r8 x := by
  cases x <;> rfl

@[simp] theorem State.setPair_HL_r8 (s : State) (w : Word) (x : Reg8) :
    (s.setPair .HL w).r8 x = if x = .H then hi w else if x = .L then lo w else s.r8 x := by
  cases x <;> rfl

@[simp] theorem State.setStackPair_HL_r8 (s : State) (w : Word) (x : Reg8) :
    (s.setStackPair .HL w).r8 x = if x = .H then hi w else if x = .L then lo w else s.r8 x := by
  cases x <;> rfl

@[simp] theorem State.setPair_SP_r8 (s : State) (w : Word) (x : Reg8) : (s.setPair .SP w).r8 x = s.r8 x := by
  cases x <;> rfl

@[simp] theorem State.setStackPair_AF (s : State) (w : Word) : s.setStackPair .AF w = s.setAF w := rfl

@[simp] theorem State.stackPair_AF (s : State) : s.stackPair .AF = s.readAF := rfl

@[simp] theorem State.setAF_readAF (s : State) (w : Word) : (s.setAF w).readAF = w &&& 0xFFF0#16 :=
  word_ext (by simp [State.readAF_eq]) (by simp [State.readAF_eq])

/-- A pair written by the stack instructions reads back, `AF` with the low nibble of `F` dropped (R24). -/
@[simp] theorem State.setStackPair_stackPair (s : State) (q : StackPair) (w : Word) :
    (s.setStackPair q w).stackPair q = if q = .AF then w &&& 0xFFF0#16 else w := by
  cases q
  · rfl
  · rfl
  · rfl
  · simp

end Sys2Proof.Machine
end

