-- ==== Sys2Proof/Laws/Ops.lean ====
section
/-! SUPPORT. The shared operations: what each does, said once. `Work.run` over each kind of M-cycle; push and pop (R9);
the fetch (R27); the dispatch (R307); the accessors (R37). -/

namespace Sys2Proof.Machine

/-! ## Running the work of an instruction -/

@[simp] theorem Work.run_done (s : State) : (Work.done s).run = s := rfl

@[simp] theorem State.reading_run (s : State) (a : Word) (k : Byte → State → Work) :
    (s.reading a k).run = (k (Memory.read s.mem a) (s.afterRead a)).run := rfl

@[simp] theorem State.writing_run (s : State) (a : Word) (v : Byte) (k : State → Work) :
    (s.writing a v k).run = (k (s.afterWrite a v)).run := rfl

@[simp] theorem State.idling_run (s : State) (k : State → Work) : (s.idling k).run = (k s.afterInternal).run := rfl

@[simp] theorem State.fetching_run (s : State) (k : Byte → State → Work) :
    (s.fetching k).run = (k (Memory.read s.mem s.pc) ((s.afterRead s.pc).setPC (s.pc + 1))).run := rfl

/-- `Push16(v)` (R9): two writes, the high byte first. -/
@[simp] theorem State.push16_run (s : State) (v : Word) (k : State → Work) :
    (s.push16 v k).run =
      (k ((((s.setSP (s.sp - 1)).afterWrite (s.sp - 1) (hi v)).setSP (s.sp - 1 - 1)).afterWrite (s.sp - 1 - 1)
        (lo v))).run := rfl

/-- `Pop16()` (R9): two reads, the low byte first. -/
@[simp] theorem State.popping_run (s : State) (k : Word → State → Work) :
    (s.popping k).run =
      (k (mk16 (Memory.read s.mem (s.sp + 1)) (Memory.read s.mem s.sp))
        ((((s.afterRead s.sp).setSP (s.sp + 1)).afterRead (s.sp + 1)).setSP (s.sp + 1 + 1))).run := rfl

/-! ## The fetch (R27) -/

theorem State.fetched_succ (s : State) (n : Nat) :
    s.fetched (n + 1) = ((s.afterRead s.pc).setPC (s.pc + 1)).fetched n := rfl

@[simp] theorem State.fetched_zero (s : State) : s.fetched 0 = s := rfl

/-- `n` fetches advance `PC` by `n`, modulo 65,536. -/
@[simp] theorem State.fetched_pc (s : State) (n : Nat) : (s.fetched n).pc = s.pc + BitVec.ofNat 16 n := by
  induction n generalizing s with
  | zero => simp
  | succ n ih =>
    rw [State.fetched_succ, ih, State.setPC_pc, BitVec.add_assoc]
    congr 1
    rw [show n + 1 = 1 + n from Nat.add_comm n 1, BitVec.ofNat_add]
    rfl

@[simp] theorem State.fetched_af (s : State) (n : Nat) : (s.fetched n).af = s.af := by
  induction n generalizing s with
  | zero => rfl
  | succ n ih => rw [State.fetched_succ, ih]; rfl

@[simp] theorem State.fetched_bc (s : State) (n : Nat) : (s.fetched n).bc = s.bc := by
  induction n generalizing s with
  | zero => rfl
  | succ n ih => rw [State.fetched_succ, ih]; rfl

@[simp] theorem State.fetched_de (s : State) (n : Nat) : (s.fetched n).de = s.de := by
  induction n generalizing s with
  | zero => rfl
  | succ n ih => rw [State.fetched_succ, ih]; rfl

@[simp] theorem State.fetched_hl (s : State) (n : Nat) : (s.fetched n).hl = s.hl := by
  induction n generalizing s with
  | zero => rfl
  | succ n ih => rw [State.fetched_succ, ih]; rfl

@[simp] theorem State.fetched_sp (s : State) (n : Nat) : (s.fetched n).sp = s.sp := by
  induction n generalizing s with
  | zero => rfl
  | succ n ih => rw [State.fetched_succ, ih]; rfl

@[simp] theorem State.fetched_ime (s : State) (n : Nat) : (s.fetched n).ime = s.ime := by
  induction n generalizing s with
  | zero => rfl
  | succ n ih => rw [State.fetched_succ, ih]; rfl

@[simp] theorem State.fetched_halted (s : State) (n : Nat) : (s.fetched n).halted = s.halted := by
  induction n generalizing s with
  | zero => rfl
  | succ n ih => rw [State.fetched_succ, ih]; rfl

@[simp] theorem State.fetched_faulted (s : State) (n : Nat) : (s.fetched n).faulted = s.faulted := by
  induction n generalizing s with
  | zero => rfl
  | succ n ih => rw [State.fetched_succ, ih]; rfl

@[simp] theorem State.fetched_faultOpcode (s : State) (n : Nat) : (s.fetched n).faultOpcode = s.faultOpcode := by
  induction n generalizing s with
  | zero => rfl
  | succ n ih => rw [State.fetched_succ, ih]; rfl

@[simp] theorem State.fetched_mem (s : State) (n : Nat) : (s.fetched n).mem = s.mem := by
  induction n generalizing s with
  | zero => rfl
  | succ n ih => rw [State.fetched_succ, ih]; rfl

@[simp] theorem State.fetched_env (s : State) (n : Nat) : (s.fetched n).env = s.env := by
  induction n generalizing s with
  | zero => rfl
  | succ n ih => rw [State.fetched_succ, ih]; rfl

@[simp] theorem State.fetched_f (s : State) (n : Nat) : (s.fetched n).f = s.f := by simp [State.f]

@[simp] theorem State.fetched_flags (s : State) (n : Nat) : (s.fetched n).flags = s.flags := by simp [State.flags]

@[simp] theorem State.fetched_r8 (s : State) (n : Nat) (x : Reg8) : (s.fetched n).r8 x = s.r8 x := by
  cases x <;> simp [State.r8]

/-! ## The dispatch (R306, R307) -/

/-- `Dispatch(v)`: `IME` and `halted` cleared, `PC` pushed, control at `v`; five M-cycles, two of them writes. -/
theorem State.dispatch_run (s : State) (v : Word) :
    (s.dispatch v).run =
      { s with
        ime := false
        halted := false
        sp := s.sp - 1 - 1
        pc := v
        mem := Memory.write (Memory.write s.mem (s.sp - 1) (hi s.pc)) (s.sp - 1 - 1) (lo s.pc)
        cycles := .internal :: .write (s.sp - 1 - 1) (lo s.pc) :: .write (s.sp - 1) (hi s.pc)
          :: .internal :: .internal :: s.cycles } := by
  simp only [State.dispatch, State.serviceEntry, State.push16, State.idling, State.writing, Work.run,
    State.afterInternal, State.afterWrite, State.tick, State.setIME, State.setHalted, State.setSP, State.setPC]

/-- The return from a handler (R260, R313). -/
theorem State.returnFromInterrupt_run (s : State) :
    s.returnFromInterrupt.run =
      { s with
        ime := true
        sp := s.sp + 1 + 1
        pc := mk16 (Memory.read s.mem (s.sp + 1)) (Memory.read s.mem s.sp)
        cycles := .internal :: .read (s.sp + 1) (Memory.read s.mem (s.sp + 1)) :: .read s.sp (Memory.read s.mem s.sp)
          :: s.cycles } := by
  simp only [State.returnFromInterrupt, State.popping, State.idling, State.reading, Work.run, State.afterInternal,
    State.afterRead, State.tick, State.setIME, State.setSP, State.setPC]

/-! ## The accessors (R37) -/

@[simp] theorem State.accessorWrite_mem (s : State) (w : AccessorWrite) : (s.accessorWrite w).mem = s.mem := by
  cases w with
  | reg16 r v => cases r <;> rfl
  | reg8 r v => cases r <;> rfl
  | flag f b => rfl
  | ime b => rfl
  | halted b => rfl

@[simp] theorem State.accessorWrite_env (s : State) (w : AccessorWrite) : (s.accessorWrite w).env = s.env := by
  cases w with
  | reg16 r v => cases r <;> rfl
  | reg8 r v => cases r <;> rfl
  | flag f b => rfl
  | ime b => rfl
  | halted b => rfl

@[simp] theorem State.accessorWrite_cycles (s : State) (w : AccessorWrite) :
    (s.accessorWrite w).cycles = s.cycles := by
  cases w with
  | reg16 r v => cases r <;> rfl
  | reg8 r v => cases r <;> rfl
  | flag f b => rfl
  | ime b => rfl
  | halted b => rfl

end Sys2Proof.Machine
end

