-- ==== Sys2Proof/Laws/Forms.lean ====
section
/-! SUPPORT. The dispatch, said once by forms: running an instruction is running its form's work. -/

namespace Sys2Proof

/-- The two readings of the table's rows are inverse: every constructor is the row of its form. -/
@[simp] theorem instrOf_formOf (i : Instr) : instrOf (formOf i) = i := by cases i <;> rfl

@[simp] theorem formOf_instrOf (f : Form) : formOf (instrOf f) = f := by
  cases f with
  | invalid k => cases k <;> rfl
  | ldRegReg d r => cases d <;> cases r <;> rfl
  | ldRegImm d n => cases d <;> rfl
  | ldRegAtHL d => cases d <;> rfl
  | ldAtHLReg r => cases r <;> rfl
  | loadA m => cases m <;> rfl
  | storeA m => cases m <;> rfl
  | ldPairImm p nn => cases p <;> rfl
  | push q => cases q <;> rfl
  | pop q => cases q <;> rfl
  | alu op x =>
    cases op <;> cases x with
    | reg r => cases r <;> rfl
    | atHL => rfl
    | imm n => rfl
  | incReg r => cases r <;> rfl
  | decReg r => cases r <;> rfl
  | addHL p => cases p <;> rfl
  | incPair p => cases p <;> rfl
  | decPair p => cases p <;> rfl
  | cb c =>
    cases c with
    | rot op x => cases op <;> cases x with
      | reg r => cases r <;> rfl
      | atHL => rfl
    | bit b x => cases b <;> cases x with
      | reg r => cases r <;> rfl
      | atHL => rfl
    | res b x => cases b <;> cases x with
      | reg r => cases r <;> rfl
      | atHL => rfl
    | set b x => cases b <;> cases x with
      | reg r => cases r <;> rfl
      | atHL => rfl
  | jpCond cc nn => cases cc <;> rfl
  | jrCond cc e => cases cc <;> rfl
  | callCond cc nn => cases cc <;> rfl
  | retCond cc => cases cc <;> rfl
  | rst t => cases t <;> rfl
  | _ => rfl

namespace Machine

/-- Every meaning is the work of its row's form: each of the 512 arms, once. -/
theorem exec_eq (i : Instr) (s : State) : exec i s = .next (formWork (formOf i) s).run := by cases i <;> rfl

/-- The same, from the form. -/
theorem exec_instrOf (f : Form) (s : State) : exec (instrOf f) s = .next (formWork f s).run := by
  rw [exec_eq, formOf_instrOf]

/-- `EI` with `EI_DELAY = 0` (R274). -/
@[simp] theorem ei_eq (s : State) : ei s = .done (s.setIME true) := rfl

/-- `STOP`, halt-like (R272). -/
@[simp] theorem stop_eq (s : State) : stop s = .done ((s.setPC (s.pc + 1)).setHalted true) := rfl

/-- An invalid opcode of the table is the invalid-opcode behaviour of its byte (R275). -/
@[simp] theorem invalid_eq (k : InvalidOp) (s : State) :
    invalid k s = .done (s.raiseUnsupportedOpcode (invalidByte k)) := rfl

/-! ## CORE's turn -/

/-- The row of an invalid opcode is that of its byte. -/
theorem invalidByte_of_row {b : Byte} {k : InvalidOp} (h : invalidRow b = some k) : invalidByte k = b := by
  revert b k; decide

/-- The invalid-opcode behaviour of any byte, with a row or not, is to take the fault with that byte (R114, R275). -/
@[simp] theorem runBehaviour_invalid (b : Byte) (s : State) :
    runBehaviour (.invalid b) s = .next (s.raiseUnsupportedOpcode b) := by
  unfold runBehaviour
  cases h : invalidRow b with
  | none => simp [h, invalidOpcode]
  | some k => simp [h, exec_instrOf, formWork, invalidByte_of_row h]

@[simp] theorem runBehaviour_form (f : Form) (s : State) :
    runBehaviour (.form f) s = .next (formWork f s).run := exec_instrOf f s

/-- At the defaults the behaviour of the bytes at `PC` is that of the instruction there (R114). -/
theorem runBehaviour_behaviourAt (s t : State) :
    runBehaviour (s.behaviourAt Config.params.invalidOpcodes) t = exec s.instrAt t := by
  rw [State.instrAt, decode3, decodeForm_eq, State.behaviourAt, behaviourOf, plainBehaviour]
  cases s.opcodeByte == Config.cbPrefixByte
  · cases h : Config.params.invalidOpcodes.contains s.opcodeByte
    · rfl
    · have hr := invalid_default s.opcodeByte (Memory.read s.mem (s.pc + 1)) (Memory.read s.mem (s.pc + 2)) h
      cases hk : invalidRow s.opcodeByte with
      | none => simp [hk] at hr
      | some k =>
        simp only [hk, Option.map_some, Option.some.injEq] at hr
        simp only [cond_false, cond_true, runBehaviour, hk, ← hr]
  · rfl

@[simp] theorem fetchCountWith_default (b : Byte) : fetchCountWith Config.params.invalidOpcodes b = fetchCount b := by
  simp [fetchCountWith, fetchCount]

/-- CORE's turn when it is neither faulted nor halted (R116, R121). -/
theorem advance_running {s : State} (hf : s.faulted = false) (hh : s.halted = false) :
    advance s = exec s.instrAt (s.fetched (fetchCount s.opcodeByte)) := by
  simp [advance, advanceWith, hf, hh, runBehaviour_behaviourAt]

/-- CORE's turn while halted (R118), whatever the parameters. -/
theorem advanceWith_halted (p : Config.Params) {s : State} (hf : s.faulted = false) (hh : s.halted = true) :
    advanceWith p s = .next s.afterInternal := by simp [advanceWith, hf, hh]

theorem advance_halted {s : State} (hf : s.faulted = false) (hh : s.halted = true) :
    advance s = .next s.afterInternal := advanceWith_halted _ hf hh

/-- CORE's turn after a fault (R119), whatever the parameters. -/
theorem advanceWith_faulted (p : Config.Params) {s : State} (hf : s.faulted = true) : advanceWith p s = .next s := by
  simp [advanceWith, hf]

theorem advance_faulted {s : State} (hf : s.faulted = true) : advance s = .next s := advanceWith_faulted _ hf

/-- CORE's turn always answers a next state. -/
theorem advance_next (s : State) : ∃ t, advance s = .next t := by
  cases hf : s.faulted
  · cases hh : s.halted
    · exact ⟨_, by rw [advance_running hf hh, exec_eq]⟩
    · exact ⟨_, advance_halted hf hh⟩
  · exact ⟨_, advance_faulted hf⟩

theorem scheduledStepWith_idle (p : Config.Params) {s : State} (h : s.env = []) : scheduledStepWith p s = advanceWith p s := by
  simp [scheduledStepWith, h]

theorem scheduledStepWith_cons (p : Config.Params) {s : State} {e : EnvEvent} {rest : List EnvEvent}
    (h : s.env = e :: rest) : scheduledStepWith p s = transitionWith p e { s with env := rest } := by
  simp [scheduledStepWith, h]

theorem step_idle_schedule {s : State} (h : s.env = []) : step s = advance s := scheduledStepWith_idle _ h

theorem step_scheduled {s : State} {e : EnvEvent} {rest : List EnvEvent} (h : s.env = e :: rest) :
    step s = transition e { s with env := rest } := scheduledStepWith_cons _ h

/-! ## The transitions of R325, with the defaults of R4 -/

@[simp] theorem transition_core (s : State) : transition .core s = advance s := rfl

@[simp] theorem transition_int (v : Word) (s : State) :
    transition (.int v) s = bif s.dispatchEnabled then .next (s.dispatch v).run else .refused .dispatchNotEnabled := rfl

@[simp] theorem transition_wake (s : State) :
    transition .wake s = bif s.wakeEnabled then .next s.wake else .refused .wakeNotEnabled := rfl

@[simp] theorem transition_mem (a : Word) (v : Byte) (s : State) : transition (.mem a v) s = .next (s.agentWrite a v) := rfl

@[simp] theorem transition_dbg (w : AccessorWrite) (s : State) : transition (.dbg w) s = .next (s.accessorWrite w) := rfl

@[simp] theorem transition_reset (s : State) : transition .reset s = .next s.resetCore := rfl

/-- The parameters matter to a reset and to CORE's turn alone (R114, R325, R340). -/
theorem transitionWith_eq (p : Config.Params) {e : EnvEvent} (h : e ≠ .reset) (hc : e ≠ .core) (s : State) :
    transitionWith p e s = transition e s := by
  cases e with
  | reset => exact absurd rfl h
  | core => exact absurd rfl hc
  | _ => rfl

end Machine

end Sys2Proof
end

