-- ==== Sys2Proof/Tests/Slice0.lean ====
section
/-! SUPPORT. Tests, their expected results from outside the model: decodings from the table `opcode_table.json` and the
"Encoding" lines of the rules, single steps from the test vectors of `95_test_vectors.md` (theorem `test_V<n>_…` is vector
V<n>); and for each obligation with hypotheses a witness that meets them. -/

namespace Sys2Proof.Tests

open Sys2Proof.Machine Sys2Proof.Safety

/-! ## Well-formedness -/

/-- The one check: the prefix alone is not an instruction (R276). -/
theorem test_wf_refuses_the_prefix : Instr.wf .cbPrefix = false := by decide

/-- What follows the prefix makes an instruction, and so is every invalid opcode one (R275). -/
theorem test_wf_admits : Instr.wf .swap_A = true ∧ Instr.wf .invalid_D3 = true ∧ Instr.wf (.ld_A_n 0xFF) = true := by decide

/-- The decoder never yields the prefix alone, and rejects bytes cut short by name (R73, R276). -/
theorem test_decode_rejects_cut_bytes :
    decode [0xCB] = .error (.truncated 2) ∧ decode [0x3E] = .error (.truncated 2)
      ∧ decode [0xC3, 0x00] = .error (.truncated 3) := by decide

/-! ## Decoding, every row of the table -/

/-- What each first byte decodes to, before the bytes `8A`, `3B`. -/
def words (ops : List Byte) : List Instr :=
  ops.map fun b =>
    match decode [b, 0x8A, 0x3B] with
    | .ok (i, _) => i
    | .error _ => .cbPrefix

/-- What each second byte after the prefix decodes to. -/
def cbWords (cbops : List Byte) : List Instr :=
  cbops.map fun b =>
    match decode [0xCB, b] with
    | .ok (i, _) => i
    | .error _ => .cbPrefix

theorem test_decode_00_to_1F :
    words [0x00, 0x01, 0x02, 0x03, 0x04, 0x05, 0x06, 0x07, 0x08, 0x09, 0x0A, 0x0B, 0x0C, 0x0D, 0x0E, 0x0F,
      0x10, 0x11, 0x12, 0x13, 0x14, 0x15, 0x16, 0x17, 0x18, 0x19, 0x1A, 0x1B, 0x1C, 0x1D, 0x1E, 0x1F] = [
      .nop, .ld_BC_nn 0x3B8A, .ld_atBC_A, .inc_BC,
      .inc_B, .dec_B, .ld_B_n 0x8A, .rlca,
      .ld_atNn_SP 0x3B8A, .add_HL_BC, .ld_A_atBC, .dec_BC,
      .inc_C, .dec_C, .ld_C_n 0x8A, .rrca,
      .stop, .ld_DE_nn 0x3B8A, .ld_atDE_A, .inc_DE,
      .inc_D, .dec_D, .ld_D_n 0x8A, .rla,
      .jr_e 0x8A, .add_HL_DE, .ld_A_atDE, .dec_DE,
      .inc_E, .dec_E, .ld_E_n 0x8A, .rra] := by decide

theorem test_decode_20_to_3F :
    words [0x20, 0x21, 0x22, 0x23, 0x24, 0x25, 0x26, 0x27, 0x28, 0x29, 0x2A, 0x2B, 0x2C, 0x2D, 0x2E, 0x2F,
      0x30, 0x31, 0x32, 0x33, 0x34, 0x35, 0x36, 0x37, 0x38, 0x39, 0x3A, 0x3B, 0x3C, 0x3D, 0x3E, 0x3F] = [
      .jr_NZ_e 0x8A, .ld_HL_nn 0x3B8A, .ld_atHLinc_A, .inc_HL,
      .inc_H, .dec_H, .ld_H_n 0x8A, .daa,
      .jr_Z_e 0x8A, .add_HL_HL, .ld_A_atHLinc, .dec_HL,
      .inc_L, .dec_L, .ld_L_n 0x8A, .cpl,
      .jr_NC_e 0x8A, .ld_SP_nn 0x3B8A, .ld_atHLdec_A, .inc_SP,
      .inc_atHL, .dec_atHL, .ld_atHL_n 0x8A, .scf,
      .jr_C_e 0x8A, .add_HL_SP, .ld_A_atHLdec, .dec_SP,
      .inc_A, .dec_A, .ld_A_n 0x8A, .ccf] := by decide

theorem test_decode_40_to_5F :
    words [0x40, 0x41, 0x42, 0x43, 0x44, 0x45, 0x46, 0x47, 0x48, 0x49, 0x4A, 0x4B, 0x4C, 0x4D, 0x4E, 0x4F,
      0x50, 0x51, 0x52, 0x53, 0x54, 0x55, 0x56, 0x57, 0x58, 0x59, 0x5A, 0x5B, 0x5C, 0x5D, 0x5E, 0x5F] = [
      .ld_B_B, .ld_B_C, .ld_B_D, .ld_B_E,
      .ld_B_H, .ld_B_L, .ld_B_atHL, .ld_B_A,
      .ld_C_B, .ld_C_C, .ld_C_D, .ld_C_E,
      .ld_C_H, .ld_C_L, .ld_C_atHL, .ld_C_A,
      .ld_D_B, .ld_D_C, .ld_D_D, .ld_D_E,
      .ld_D_H, .ld_D_L, .ld_D_atHL, .ld_D_A,
      .ld_E_B, .ld_E_C, .ld_E_D, .ld_E_E,
      .ld_E_H, .ld_E_L, .ld_E_atHL, .ld_E_A] := by decide

theorem test_decode_60_to_7F :
    words [0x60, 0x61, 0x62, 0x63, 0x64, 0x65, 0x66, 0x67, 0x68, 0x69, 0x6A, 0x6B, 0x6C, 0x6D, 0x6E, 0x6F,
      0x70, 0x71, 0x72, 0x73, 0x74, 0x75, 0x76, 0x77, 0x78, 0x79, 0x7A, 0x7B, 0x7C, 0x7D, 0x7E, 0x7F] = [
      .ld_H_B, .ld_H_C, .ld_H_D, .ld_H_E,
      .ld_H_H, .ld_H_L, .ld_H_atHL, .ld_H_A,
      .ld_L_B, .ld_L_C, .ld_L_D, .ld_L_E,
      .ld_L_H, .ld_L_L, .ld_L_atHL, .ld_L_A,
      .ld_atHL_B, .ld_atHL_C, .ld_atHL_D, .ld_atHL_E,
      .ld_atHL_H, .ld_atHL_L, .halt, .ld_atHL_A,
      .ld_A_B, .ld_A_C, .ld_A_D, .ld_A_E,
      .ld_A_H, .ld_A_L, .ld_A_atHL, .ld_A_A] := by decide

theorem test_decode_80_to_9F :
    words [0x80, 0x81, 0x82, 0x83, 0x84, 0x85, 0x86, 0x87, 0x88, 0x89, 0x8A, 0x8B, 0x8C, 0x8D, 0x8E, 0x8F,
      0x90, 0x91, 0x92, 0x93, 0x94, 0x95, 0x96, 0x97, 0x98, 0x99, 0x9A, 0x9B, 0x9C, 0x9D, 0x9E, 0x9F] = [
      .add_A_B, .add_A_C, .add_A_D, .add_A_E,
      .add_A_H, .add_A_L, .add_A_atHL, .add_A_A,
      .adc_A_B, .adc_A_C, .adc_A_D, .adc_A_E,
      .adc_A_H, .adc_A_L, .adc_A_atHL, .adc_A_A,
      .sub_B, .sub_C, .sub_D, .sub_E,
      .sub_H, .sub_L, .sub_atHL, .sub_A,
      .sbc_A_B, .sbc_A_C, .sbc_A_D, .sbc_A_E,
      .sbc_A_H, .sbc_A_L, .sbc_A_atHL, .sbc_A_A] := by decide

theorem test_decode_A0_to_BF :
    words [0xA0, 0xA1, 0xA2, 0xA3, 0xA4, 0xA5, 0xA6, 0xA7, 0xA8, 0xA9, 0xAA, 0xAB, 0xAC, 0xAD, 0xAE, 0xAF,
      0xB0, 0xB1, 0xB2, 0xB3, 0xB4, 0xB5, 0xB6, 0xB7, 0xB8, 0xB9, 0xBA, 0xBB, 0xBC, 0xBD, 0xBE, 0xBF] = [
      .and_B, .and_C, .and_D, .and_E,
      .and_H, .and_L, .and_atHL, .and_A,
      .xor_B, .xor_C, .xor_D, .xor_E,
      .xor_H, .xor_L, .xor_atHL, .xor_A,
      .or_B, .or_C, .or_D, .or_E,
      .or_H, .or_L, .or_atHL, .or_A,
      .cp_B, .cp_C, .cp_D, .cp_E,
      .cp_H, .cp_L, .cp_atHL, .cp_A] := by decide

theorem test_decode_C0_to_DF :
    words [0xC0, 0xC1, 0xC2, 0xC3, 0xC4, 0xC5, 0xC6, 0xC7, 0xC8, 0xC9, 0xCA, 0xCC, 0xCD, 0xCE, 0xCF, 0xD0,
      0xD1, 0xD2, 0xD3, 0xD4, 0xD5, 0xD6, 0xD7, 0xD8, 0xD9, 0xDA, 0xDB, 0xDC, 0xDD, 0xDE, 0xDF] = [
      .ret_NZ, .pop_BC, .jp_NZ_nn 0x3B8A, .jp_nn 0x3B8A,
      .call_NZ_nn 0x3B8A, .push_BC, .add_A_n 0x8A, .rst_00,
      .ret_Z, .ret, .jp_Z_nn 0x3B8A, .call_Z_nn 0x3B8A,
      .call_nn 0x3B8A, .adc_A_n 0x8A, .rst_08, .ret_NC,
      .pop_DE, .jp_NC_nn 0x3B8A, .invalid_D3, .call_NC_nn 0x3B8A,
      .push_DE, .sub_n 0x8A, .rst_10, .ret_C,
      .reti, .jp_C_nn 0x3B8A, .invalid_DB, .call_C_nn 0x3B8A,
      .invalid_DD, .sbc_A_n 0x8A, .rst_18] := by decide

theorem test_decode_E0_to_FF :
    words [0xE0, 0xE1, 0xE2, 0xE3, 0xE4, 0xE5, 0xE6, 0xE7, 0xE8, 0xE9, 0xEA, 0xEB, 0xEC, 0xED, 0xEE, 0xEF,
      0xF0, 0xF1, 0xF2, 0xF3, 0xF4, 0xF5, 0xF6, 0xF7, 0xF8, 0xF9, 0xFA, 0xFB, 0xFC, 0xFD, 0xFE, 0xFF] = [
      .ldh_atN_A 0x8A, .pop_HL, .ldh_atC_A, .invalid_E3,
      .invalid_E4, .push_HL, .and_n 0x8A, .rst_20,
      .add_SP_e 0x8A, .jp_HL, .ld_atNn_A 0x3B8A, .invalid_EB,
      .invalid_EC, .invalid_ED, .xor_n 0x8A, .rst_28,
      .ldh_A_atN 0x8A, .pop_AF, .ldh_A_atC, .di,
      .invalid_F4, .push_AF, .or_n 0x8A, .rst_30,
      .ld_HL_SPe 0x8A, .ld_SP_HL, .ld_A_atNn 0x3B8A, .ei,
      .invalid_FC, .invalid_FD, .cp_n 0x8A, .rst_38] := by decide

theorem test_decode_CB_00_to_1F :
    cbWords [0x00, 0x01, 0x02, 0x03, 0x04, 0x05, 0x06, 0x07, 0x08, 0x09, 0x0A, 0x0B, 0x0C, 0x0D, 0x0E, 0x0F,
      0x10, 0x11, 0x12, 0x13, 0x14, 0x15, 0x16, 0x17, 0x18, 0x19, 0x1A, 0x1B, 0x1C, 0x1D, 0x1E, 0x1F] = [
      .rlc_B, .rlc_C, .rlc_D, .rlc_E,
      .rlc_H, .rlc_L, .rlc_atHL, .rlc_A,
      .rrc_B, .rrc_C, .rrc_D, .rrc_E,
      .rrc_H, .rrc_L, .rrc_atHL, .rrc_A,
      .rl_B, .rl_C, .rl_D, .rl_E,
      .rl_H, .rl_L, .rl_atHL, .rl_A,
      .rr_B, .rr_C, .rr_D, .rr_E,
      .rr_H, .rr_L, .rr_atHL, .rr_A] := by decide

theorem test_decode_CB_20_to_3F :
    cbWords [0x20, 0x21, 0x22, 0x23, 0x24, 0x25, 0x26, 0x27, 0x28, 0x29, 0x2A, 0x2B, 0x2C, 0x2D, 0x2E, 0x2F,
      0x30, 0x31, 0x32, 0x33, 0x34, 0x35, 0x36, 0x37, 0x38, 0x39, 0x3A, 0x3B, 0x3C, 0x3D, 0x3E, 0x3F] = [
      .sla_B, .sla_C, .sla_D, .sla_E,
      .sla_H, .sla_L, .sla_atHL, .sla_A,
      .sra_B, .sra_C, .sra_D, .sra_E,
      .sra_H, .sra_L, .sra_atHL, .sra_A,
      .swap_B, .swap_C, .swap_D, .swap_E,
      .swap_H, .swap_L, .swap_atHL, .swap_A,
      .srl_B, .srl_C, .srl_D, .srl_E,
      .srl_H, .srl_L, .srl_atHL, .srl_A] := by decide

theorem test_decode_CB_40_to_5F :
    cbWords [0x40, 0x41, 0x42, 0x43, 0x44, 0x45, 0x46, 0x47, 0x48, 0x49, 0x4A, 0x4B, 0x4C, 0x4D, 0x4E, 0x4F,
      0x50, 0x51, 0x52, 0x53, 0x54, 0x55, 0x56, 0x57, 0x58, 0x59, 0x5A, 0x5B, 0x5C, 0x5D, 0x5E, 0x5F] = [
      .bit_0_B, .bit_0_C, .bit_0_D, .bit_0_E,
      .bit_0_H, .bit_0_L, .bit_0_atHL, .bit_0_A,
      .bit_1_B, .bit_1_C, .bit_1_D, .bit_1_E,
      .bit_1_H, .bit_1_L, .bit_1_atHL, .bit_1_A,
      .bit_2_B, .bit_2_C, .bit_2_D, .bit_2_E,
      .bit_2_H, .bit_2_L, .bit_2_atHL, .bit_2_A,
      .bit_3_B, .bit_3_C, .bit_3_D, .bit_3_E,
      .bit_3_H, .bit_3_L, .bit_3_atHL, .bit_3_A] := by decide

theorem test_decode_CB_60_to_7F :
    cbWords [0x60, 0x61, 0x62, 0x63, 0x64, 0x65, 0x66, 0x67, 0x68, 0x69, 0x6A, 0x6B, 0x6C, 0x6D, 0x6E, 0x6F,
      0x70, 0x71, 0x72, 0x73, 0x74, 0x75, 0x76, 0x77, 0x78, 0x79, 0x7A, 0x7B, 0x7C, 0x7D, 0x7E, 0x7F] = [
      .bit_4_B, .bit_4_C, .bit_4_D, .bit_4_E,
      .bit_4_H, .bit_4_L, .bit_4_atHL, .bit_4_A,
      .bit_5_B, .bit_5_C, .bit_5_D, .bit_5_E,
      .bit_5_H, .bit_5_L, .bit_5_atHL, .bit_5_A,
      .bit_6_B, .bit_6_C, .bit_6_D, .bit_6_E,
      .bit_6_H, .bit_6_L, .bit_6_atHL, .bit_6_A,
      .bit_7_B, .bit_7_C, .bit_7_D, .bit_7_E,
      .bit_7_H, .bit_7_L, .bit_7_atHL, .bit_7_A] := by decide

theorem test_decode_CB_80_to_9F :
    cbWords [0x80, 0x81, 0x82, 0x83, 0x84, 0x85, 0x86, 0x87, 0x88, 0x89, 0x8A, 0x8B, 0x8C, 0x8D, 0x8E, 0x8F,
      0x90, 0x91, 0x92, 0x93, 0x94, 0x95, 0x96, 0x97, 0x98, 0x99, 0x9A, 0x9B, 0x9C, 0x9D, 0x9E, 0x9F] = [
      .res_0_B, .res_0_C, .res_0_D, .res_0_E,
      .res_0_H, .res_0_L, .res_0_atHL, .res_0_A,
      .res_1_B, .res_1_C, .res_1_D, .res_1_E,
      .res_1_H, .res_1_L, .res_1_atHL, .res_1_A,
      .res_2_B, .res_2_C, .res_2_D, .res_2_E,
      .res_2_H, .res_2_L, .res_2_atHL, .res_2_A,
      .res_3_B, .res_3_C, .res_3_D, .res_3_E,
      .res_3_H, .res_3_L, .res_3_atHL, .res_3_A] := by decide

theorem test_decode_CB_A0_to_BF :
    cbWords [0xA0, 0xA1, 0xA2, 0xA3, 0xA4, 0xA5, 0xA6, 0xA7, 0xA8, 0xA9, 0xAA, 0xAB, 0xAC, 0xAD, 0xAE, 0xAF,
      0xB0, 0xB1, 0xB2, 0xB3, 0xB4, 0xB5, 0xB6, 0xB7, 0xB8, 0xB9, 0xBA, 0xBB, 0xBC, 0xBD, 0xBE, 0xBF] = [
      .res_4_B, .res_4_C, .res_4_D, .res_4_E,
      .res_4_H, .res_4_L, .res_4_atHL, .res_4_A,
      .res_5_B, .res_5_C, .res_5_D, .res_5_E,
      .res_5_H, .res_5_L, .res_5_atHL, .res_5_A,
      .res_6_B, .res_6_C, .res_6_D, .res_6_E,
      .res_6_H, .res_6_L, .res_6_atHL, .res_6_A,
      .res_7_B, .res_7_C, .res_7_D, .res_7_E,
      .res_7_H, .res_7_L, .res_7_atHL, .res_7_A] := by decide

theorem test_decode_CB_C0_to_DF :
    cbWords [0xC0, 0xC1, 0xC2, 0xC3, 0xC4, 0xC5, 0xC6, 0xC7, 0xC8, 0xC9, 0xCA, 0xCB, 0xCC, 0xCD, 0xCE, 0xCF,
      0xD0, 0xD1, 0xD2, 0xD3, 0xD4, 0xD5, 0xD6, 0xD7, 0xD8, 0xD9, 0xDA, 0xDB, 0xDC, 0xDD, 0xDE, 0xDF] = [
      .set_0_B, .set_0_C, .set_0_D, .set_0_E,
      .set_0_H, .set_0_L, .set_0_atHL, .set_0_A,
      .set_1_B, .set_1_C, .set_1_D, .set_1_E,
      .set_1_H, .set_1_L, .set_1_atHL, .set_1_A,
      .set_2_B, .set_2_C, .set_2_D, .set_2_E,
      .set_2_H, .set_2_L, .set_2_atHL, .set_2_A,
      .set_3_B, .set_3_C, .set_3_D, .set_3_E,
      .set_3_H, .set_3_L, .set_3_atHL, .set_3_A] := by decide

theorem test_decode_CB_E0_to_FF :
    cbWords [0xE0, 0xE1, 0xE2, 0xE3, 0xE4, 0xE5, 0xE6, 0xE7, 0xE8, 0xE9, 0xEA, 0xEB, 0xEC, 0xED, 0xEE, 0xEF,
      0xF0, 0xF1, 0xF2, 0xF3, 0xF4, 0xF5, 0xF6, 0xF7, 0xF8, 0xF9, 0xFA, 0xFB, 0xFC, 0xFD, 0xFE, 0xFF] = [
      .set_4_B, .set_4_C, .set_4_D, .set_4_E,
      .set_4_H, .set_4_L, .set_4_atHL, .set_4_A,
      .set_5_B, .set_5_C, .set_5_D, .set_5_E,
      .set_5_H, .set_5_L, .set_5_atHL, .set_5_A,
      .set_6_B, .set_6_C, .set_6_D, .set_6_E,
      .set_6_H, .set_6_L, .set_6_atHL, .set_6_A,
      .set_7_B, .set_7_C, .set_7_D, .set_7_E,
      .set_7_H, .set_7_L, .set_7_atHL, .set_7_A] := by decide

/-! ## Decoding, bit by bit -/

/-- R131 `0b01_yyy_zzz`, R132 `0b00_yyy_110`, R161 `0b00_pp0_001` then `nn` low, `nn` high. -/
theorem test_bits_loads :
    decode [0b01_010_011] = .ok (.ld_D_E, []) ∧ decode [0b00_101_110, 0x99] = .ok (.ld_L_n 0x99, [])
      ∧ decode [0b00_110_001, 0x00, 0xD0] = .ok (.ld_SP_nn 0xD000, []) := by decide

/-- R164 `0b11_pp0_101`, R165 `0b11_pp0_001`. -/
theorem test_bits_stack :
    decode [0b11_110_101] = .ok (.push_AF, []) ∧ decode [0b11_100_001] = .ok (.pop_HL, []) := by decide

/-- R175 `0b10_yyy_zzz`, R200 `0b00_yyy_100`, R211 `0b00_pp1_001`. -/
theorem test_bits_arithmetic :
    decode [0b10_011_100] = .ok (.sbc_A_H, []) ∧ decode [0b00_001_100] = .ok (.inc_C, [])
      ∧ decode [0b00_111_001] = .ok (.add_HL_SP, []) := by decide

/-- R239 `CB` then `0b00_111_zzz`, R241 `0b01_bbb_zzz`, R243 `0b10_bbb_zzz`, R246 `0b11_bbb_110`. -/
theorem test_bits_cb :
    decode [0xCB, 0b00_111_010] = .ok (.srl_D, []) ∧ decode [0xCB, 0b01_100_101] = .ok (.bit_4_L, [])
      ∧ decode [0xCB, 0b10_001_101] = .ok (.res_1_L, []) ∧ decode [0xCB, 0b11_111_110] = .ok (.set_7_atHL, []) := by decide

/-- R252 `0b11_0cc_010`, R255 `0b00_1cc_000`, R257 `0b11_0cc_100`, R259 `0b11_0cc_000`, R261 `0b11_yyy_111`. -/
theorem test_bits_control :
    decode [0b11_001_010, 0x34, 0x12] = .ok (.jp_Z_nn 0x1234, []) ∧ decode [0b00_110_000, 0x01] = .ok (.jr_NC_e 0x01, [])
      ∧ decode [0b11_011_100, 0x00, 0x40] = .ok (.call_C_nn 0x4000, []) ∧ decode [0b11_000_000] = .ok (.ret_NZ, [])
      ∧ decode [0b11_101_111] = .ok (.rst_28, []) := by decide

/-! ## The host's words -/

/-- A CB row is numbered with the prefix as its more significant byte (R88; log 11); an operand byte without table bits
is zero; the prefix alone decodes with the zero byte after it (log 12). -/
theorem test_decodeTableWord :
    decodeTableWord 16 0xCB37 = some .swap_A ∧ decodeTableWord 8 0x3E = some (.ld_A_n 0)
      ∧ decodeTableWord 8 0xC3 = some (.jp_nn 0) ∧ decodeTableWord 8 0xCB = some .rlc_B := by decide

/-- A stored table word is the first instruction run after reset. -/
theorem test_withFetchWord :
    step (State.reset.withFetchWord 16 0xCB37)
        = exec .swap_A ((State.reset.withFetchWord 16 0xCB37).fetched 2)
      ∧ step (State.reset.withFetchWord 8 0x04) = exec .inc_B ((State.reset.withFetchWord 8 0x04).fetched 1) := ⟨rfl, rfl⟩

/-! ## Single steps, from the test vectors -/

/-- The state after one step from `s` with these bytes at `PC`. -/
def ran (bytes : List Byte) (s : State) : Option State :=
  match step { s with mem := placeBytes s.mem s.pc bytes } with
  | .next t => some t
  | _ => none

theorem test_V1_LD_B_C :
    (ran [0x41] State.reset).map
        (fun t => t.bc)
      = some 0x1313 := by decide

theorem test_V6_LD_B_00 :
    (ran [0x06, 0x00] { State.reset with pc := 0xFFFF }).map
        (fun t => t.pc)
      = some 0x0001 := by decide

theorem test_V8_LD_H_HL :
    (ran [0x66] { State.reset with hl := 0xC000, mem := [(0xC000, 0x12)] }).map
        (fun t => t.hl)
      = some 0x1200 := by decide

theorem test_V9_LD_HL_E :
    (ran [0x73] { State.reset with hl := 0xC123, de := 0x00AB }).map
        (fun t => Memory.read t.mem 0xC123)
      = some 0xAB := by decide

theorem test_V11_LD_HL_5A :
    (ran [0x36, 0x5A] { State.reset with hl := 0xFFFF }).map
        (fun t => Memory.read t.mem 0xFFFF)
      = some 0x5A := by decide

theorem test_V12_LD_A_BC :
    (ran [0x0A] { State.reset with bc := 0x8000, mem := [(0x8000, 0x33)] }).map
        (fun t => t.af)
      = some 0x33B0 := by decide

theorem test_V16_LD_A_C234 :
    (ran [0xFA, 0x34, 0xC2] { State.reset with mem := [(0xC234, 0x5E)] }).map
        (fun t => t.af)
      = some 0x5EB0 := by decide

theorem test_V17_LD_FFFF_A :
    (ran [0xEA, 0xFF, 0xFF] { State.reset with af := 0x1FB0 }).map
        (fun t => Memory.read t.mem 0xFFFF)
      = some 0x1F := by decide

theorem test_V19_LDH_C_A :
    (ran [0xE2] { State.reset with bc := 0x12FF, af := 0x05B0 }).map
        (fun t => Memory.read t.mem 0xFFFF)
      = some 0x05 := by decide

theorem test_V20_LDH_A_00 :
    (ran [0xF0, 0x00] { State.reset with mem := [(0xFF00, 0xCF)] }).map
        (fun t => t.af)
      = some 0xCFB0 := by decide

theorem test_V21_LDH_80_A :
    (ran [0xE0, 0x80] { State.reset with af := 0xA5B0 }).map
        (fun t => Memory.read t.mem 0xFF80)
      = some 0xA5 := by decide

theorem test_V22_LD_A_HLdec :
    (ran [0x3A] { State.reset with hl := 0x0000, mem := [(0x0000, 0x3C)] }).map
        (fun t => (t.af, t.hl))
      = some (0x3CB0, 0xFFFF) := by decide

theorem test_V25_LD_HLinc_A :
    (ran [0x22] { State.reset with hl := 0xC0FF, af := 0xEEB0 }).map
        (fun t => (t.hl, Memory.read t.mem 0xC0FF))
      = some (0xC100, 0xEE) := by decide

theorem test_V32_LD_HL_FFFF :
    (ran [0x21, 0xFF, 0xFF] State.reset).map
        (fun t => t.hl)
      = some 0xFFFF := by decide

theorem test_V34_LD_FFFF_SP :
    (ran [0x08, 0xFF, 0xFF] { State.reset with sp := 0xABCD }).map
        (fun t => (Memory.read t.mem 0xFFFF, Memory.read t.mem 0x0000))
      = some (0xCD, 0xAB) := by decide

theorem test_V35_LD_SP_HL :
    (ran [0xF9] { State.reset with hl := 0xC800 }).map
        (fun t => t.sp)
      = some 0xC800 := by decide

theorem test_V38_PUSH_BC_SP_0001 :
    (ran [0xC5] { State.reset with bc := 0xA1B2, sp := 0x0001 }).map
        (fun t => (t.sp, Memory.read t.mem 0x0000, Memory.read t.mem 0xFFFF))
      = some (0xFFFF, 0xA1, 0xB2) := by decide

theorem test_V40_POP_AF_low_nibble_dropped :
    (ran [0xF1] { State.reset with sp := 0xC000, mem := [(0xC000, 0xFF), (0xC001, 0x12)] }).map
        (fun t => (t.af, t.sp))
      = some (0x12F0, 0xC002) := by decide

theorem test_V42_POP_BC_SP_FFFF :
    (ran [0xC1] { State.reset with sp := 0xFFFF, mem := [(0x0000, 0x11), (0xFFFF, 0x22)] }).map
        (fun t => (t.af, t.bc, t.sp))
      = some (0x01B0, 0x1122, 0x0001) := by decide

theorem test_V45_LD_HL_SPminus1 :
    (ran [0xF8, 0xFF] { State.reset with sp := 0x0001 }).map
        (fun t => (t.af, t.hl))
      = some (0x0130, 0x0000) := by decide

theorem test_V51_ADD_A_A :
    (ran [0x87] { State.reset with af := 0x8000 }).map
        (fun t => t.af)
      = some 0x0090 := by decide

theorem test_V52_ADD_A_HL :
    (ran [0x86] { State.reset with af := 0x0FB0, hl := 0xC000, mem := [(0xC000, 0x01)] }).map
        (fun t => t.af)
      = some 0x1020 := by decide

theorem test_V54_ADD_A_00 :
    (ran [0xC6, 0x00] { State.reset with af := 0x42F0 }).map
        (fun t => t.af)
      = some 0x4200 := by decide

theorem test_V57_ADC_A_HL_C_flag_1 :
    (ran [0x8E] { State.reset with af := 0xE110, hl := 0xC000, mem := [(0xC000, 0x1E)] }).map
        (fun t => t.af)
      = some 0x00B0 := by decide

theorem test_V58_ADC_A_3B_C_flag_1 :
    (ran [0xCE, 0x3B] { State.reset with af := 0xE110 }).map
        (fun t => t.af)
      = some 0x1D10 := by decide

theorem test_V60_SUB_E :
    (ran [0x93] { State.reset with af := 0x3E00, de := 0x003E }).map
        (fun t => t.af)
      = some 0x00C0 := by decide

theorem test_V62_SUB_HL :
    (ran [0x96] { State.reset with af := 0x3E00, hl := 0xC000, mem := [(0xC000, 0x40)] }).map
        (fun t => t.af)
      = some 0xFE50 := by decide

theorem test_V65_SBC_A_HL_C_flag_1 :
    (ran [0x9E] { State.reset with af := 0x3B10, hl := 0xC000, mem := [(0xC000, 0x4F)] }).map
        (fun t => t.af)
      = some 0xEB70 := by decide

theorem test_V66_SBC_A_3A_C_flag_1 :
    (ran [0xDE, 0x3A] { State.reset with af := 0x3B10 }).map
        (fun t => t.af)
      = some 0x00C0 := by decide

theorem test_V69_AND_HL :
    (ran [0xA6] { State.reset with af := 0x5A00, hl := 0xC000, mem := [(0xC000, 0xA5)] }).map
        (fun t => t.af)
      = some 0x00A0 := by decide

theorem test_V72_XOR_A :
    (ran [0xAF] { State.reset with af := 0x77F0 }).map
        (fun t => t.af)
      = some 0x0080 := by decide

theorem test_V76_OR_HL :
    (ran [0xB6] { State.reset with af := 0x5A00, hl := 0xC000, mem := [(0xC000, 0x0F)] }).map
        (fun t => t.af)
      = some 0x5F00 := by decide

theorem test_V79_CP_HL :
    (ran [0xBE] { State.reset with af := 0x3C00, hl := 0xC000, mem := [(0xC000, 0x40)] }).map
        (fun t => t.af)
      = some 0x3C50 := by decide

theorem test_V80_CP_3C :
    (ran [0xFE, 0x3C] { State.reset with af := 0x3C00 }).map
        (fun t => t.af)
      = some 0x3CC0 := by decide

theorem test_V81_INC_A :
    (ran [0x3C] { State.reset with af := 0xFF10 }).map
        (fun t => t.af)
      = some 0x00B0 := by decide

theorem test_V83_INC_HL :
    (ran [0x34] { State.reset with hl := 0xC000, af := 0x01C0, mem := [(0xC000, 0x50)] }).map
        (fun t => (t.af, Memory.read t.mem 0xC000))
      = some (0x0100, 0x51) := by decide

theorem test_V85_DEC_B_C_flag_kept :
    (ran [0x05] { State.reset with bc := 0x0013, af := 0x0110 }).map
        (fun t => (t.af, t.bc))
      = some (0x0170, 0xFF13) := by decide

theorem test_V88_DEC_HL :
    (ran [0x35] { State.reset with hl := 0xC000, af := 0x0100 }).map
        (fun t => (t.af, Memory.read t.mem 0xC000))
      = some (0x0160, 0xFF) := by decide

theorem test_V90_DAA_after_83_38 :
    (ran [0x27] { State.reset with af := 0x4B60 }).map
        (fun t => t.af)
      = some 0x4540 := by decide

theorem test_V91_DAA_A_9A :
    (ran [0x27] { State.reset with af := 0x9A00 }).map
        (fun t => t.af)
      = some 0x0090 := by decide

theorem test_V92_DAA_A_00_N_1_H_1_C_1 :
    (ran [0x27] { State.reset with af := 0x0070 }).map
        (fun t => t.af)
      = some 0x9A50 := by decide

theorem test_V96_CPL :
    (ran [0x2F] { State.reset with af := 0x3590 }).map
        (fun t => t.af)
      = some 0xCAF0 := by decide

theorem test_V97_SCF :
    (ran [0x37] { State.reset with af := 0x01E0 }).map
        (fun t => t.af)
      = some 0x0190 := by decide

theorem test_V99_CCF_C_0 :
    (ran [0x3F] { State.reset with af := 0x0160 }).map
        (fun t => t.af)
      = some 0x0110 := by decide

theorem test_V110_ADD_HL_BC :
    (ran [0x09] { State.reset with hl := 0x8A23, bc := 0x0605, af := 0x0180 }).map
        (fun t => (t.af, t.hl))
      = some (0x01A0, 0x9028) := by decide

theorem test_V112_ADD_HL_SP :
    (ran [0x39] { State.reset with hl := 0x0001, sp := 0xFFFF, af := 0x01C0 }).map
        (fun t => (t.af, t.hl))
      = some (0x01B0, 0x0000) := by decide

theorem test_V115_INC_SP :
    (ran [0x33] { State.reset with sp := 0xFFFF, af := 0x01F0 }).map
        (fun t => t.sp)
      = some 0x0000 := by decide

theorem test_V118_DEC_SP :
    (ran [0x3B] { State.reset with sp := 0x0000 }).map
        (fun t => t.sp)
      = some 0xFFFF := by decide

theorem test_V122_ADD_SP_minus1 :
    (ran [0xE8, 0xFF] { State.reset with sp := 0x0001 }).map
        (fun t => (t.af, t.sp))
      = some (0x0130, 0x0000) := by decide

theorem test_V123_ADD_SP_minus128 :
    (ran [0xE8, 0x80] { State.reset with sp := 0x10FF }).map
        (fun t => (t.af, t.sp))
      = some (0x0110, 0x107F) := by decide

theorem test_V131_RLCA_A_0 :
    (ran [0x07] { State.reset with af := 0x00F0 }).map
        (fun t => t.af)
      = some 0x0000 := by decide

theorem test_V132_RRCA :
    (ran [0x0F] { State.reset with af := 0x3B00 }).map
        (fun t => t.af)
      = some 0x9D10 := by decide

theorem test_V133_RLA_C_1 :
    (ran [0x17] { State.reset with af := 0x9510 }).map
        (fun t => t.af)
      = some 0x2B10 := by decide

theorem test_V136_RRA_C_1 :
    (ran [0x1F] { State.reset with af := 0x0010 }).map
        (fun t => t.af)
      = some 0x8000 := by decide

theorem test_V138_RLC_A_A_0 :
    (ran [0xCB, 0x07] { State.reset with af := 0x0010 }).map
        (fun t => t.af)
      = some 0x0080 := by decide

theorem test_V139_RLC_HL :
    (ran [0xCB, 0x06] { State.reset with hl := 0xC000, af := 0x0100, mem := [(0xC000, 0x80)] }).map
        (fun t => (t.af, Memory.read t.mem 0xC000))
      = some (0x0110, 0x01) := by decide

theorem test_V142_RL_D_C_0 :
    (ran [0xCB, 0x12] { State.reset with de := 0x80D8, af := 0x0100 }).map
        (fun t => (t.af, t.de))
      = some (0x0190, 0x00D8) := by decide

theorem test_V146_RR_A_C_1 :
    (ran [0xCB, 0x1F] { State.reset with af := 0x8A10 }).map
        (fun t => t.af)
      = some 0xC500 := by decide

theorem test_V147_RR_HL_C_1 :
    (ran [0xCB, 0x1E] { State.reset with hl := 0xC000, af := 0x0110, mem := [(0xC000, 0x8A)] }).map
        (fun t => (t.af, Memory.read t.mem 0xC000))
      = some (0x0100, 0xC5) := by decide

theorem test_V149_SLA_A :
    (ran [0xCB, 0x27] { State.reset with af := 0xFF00 }).map
        (fun t => t.af)
      = some 0xFE10 := by decide

theorem test_V151_SRA_B :
    (ran [0xCB, 0x28] { State.reset with bc := 0x8A13, af := 0x0110 }).map
        (fun t => (t.af, t.bc))
      = some (0x0100, 0xC513) := by decide

theorem test_V154_SWAP_A :
    (ran [0xCB, 0x37] { State.reset with af := 0xF1F0 }).map
        (fun t => t.af)
      = some 0x1F00 := by decide

theorem test_V159_SRL_HL :
    (ran [0xCB, 0x3E] { State.reset with hl := 0xC000, af := 0x0110, mem := [(0xC000, 0x80)] }).map
        (fun t => (t.af, Memory.read t.mem 0xC000))
      = some (0x0100, 0x40) := by decide

theorem test_V161_BIT_4_L_bit_0 :
    (ran [0xCB, 0x65] { State.reset with hl := 0x00EF, af := 0x0100 }).map
        (fun t => t.af)
      = some 0x01A0 := by decide

theorem test_V163_BIT_0_HL_bit_1 :
    (ran [0xCB, 0x46] { State.reset with hl := 0xC000, af := 0x0180, mem := [(0xC000, 0x01)] }).map
        (fun t => t.af)
      = some 0x0120 := by decide

theorem test_V165_RES_7_A :
    (ran [0xCB, 0xBF] { State.reset with af := 0x80F0 }).map
        (fun t => t.af)
      = some 0x00F0 := by decide

theorem test_V167_RES_3_HL :
    (ran [0xCB, 0x9E] { State.reset with hl := 0xC000, af := 0x01F0, mem := [(0xC000, 0xFF)] }).map
        (fun t => Memory.read t.mem 0xC000)
      = some 0xF7 := by decide

theorem test_V169_SET_1_E_cbop_is_CB :
    (ran [0xCB, 0xCB] { State.reset with de := 0x0000, af := 0x01F0 }).map
        (fun t => t.de)
      = some 0x0002 := by decide

theorem test_V170_SET_7_HL :
    (ran [0xCB, 0xFE] { State.reset with hl := 0xC000, af := 0x0100 }).map
        (fun t => Memory.read t.mem 0xC000)
      = some 0x80 := by decide

theorem test_V181_JP_NZ_8000_Z_1_not_taken :
    (ran [0xC2, 0x00, 0x80] { State.reset with af := 0x0180 }).map
        (fun t => t.pc)
      = some 0x0103 := by decide

theorem test_V182_JP_NZ_8000_Z_0_taken :
    (ran [0xC2, 0x00, 0x80] { State.reset with af := 0x0100 }).map
        (fun t => t.pc)
      = some 0x8000 := by decide

theorem test_V186_JP_HL :
    (ran [0xE9] { State.reset with hl := 0xC123 }).map
        (fun t => t.pc)
      = some 0xC123 := by decide

theorem test_V189_JR_minus128 :
    (ran [0x18, 0x80] State.reset).map
        (fun t => t.pc)
      = some 0x0082 := by decide

theorem test_V191_JR_plus2 :
    (ran [0x18, 0x02] { State.reset with pc := 0xFFFE }).map
        (fun t => t.pc)
      = some 0x0002 := by decide

theorem test_V194_JR_Z_minus5_Z_1_taken :
    (ran [0x28, 0xFB] { State.reset with af := 0x0180 }).map
        (fun t => t.pc)
      = some 0x00FD := by decide

theorem test_V197_JR_C_plus1_C_0_not_taken :
    (ran [0x38, 0x01] { State.reset with af := 0x01E0 }).map
        (fun t => t.pc)
      = some 0x0102 := by decide

theorem test_V199_CALL_0200_SP_0000 :
    (ran [0xCD, 0x00, 0x02] { State.reset with sp := 0x0000 }).map
        (fun t => (t.sp, t.pc, Memory.read t.mem 0xFFFF, Memory.read t.mem 0xFFFE))
      = some (0xFFFE, 0x0200, 0x01, 0x03) := by decide

theorem test_V200_CALL_NZ_1234_Z_1_not_taken :
    (ran [0xC4, 0x34, 0x12] { State.reset with af := 0x0180 }).map
        (fun t => t.pc)
      = some 0x0103 := by decide

theorem test_V201_CALL_Z_1234_Z_1_taken :
    (ran [0xCC, 0x34, 0x12] { State.reset with af := 0x0180 }).map
        (fun t => (t.sp, t.pc, Memory.read t.mem 0xFFFD, Memory.read t.mem 0xFFFC))
      = some (0xFFFC, 0x1234, 0x01, 0x03) := by decide

theorem test_V205_RET_SP_FFFF :
    (ran [0xC9] { State.reset with sp := 0xFFFF, mem := [(0x0000, 0x01), (0xFFFF, 0x50)] }).map
        (fun t => (t.sp, t.pc))
      = some (0x0001, 0x0150) := by decide

theorem test_V206_RET_Z_Z_0_not_taken :
    (ran [0xC8] { State.reset with sp := 0xFFFC, af := 0x0100, mem := [(0xFFFC, 0x03), (0xFFFD, 0x01)] }).map
        (fun t => t.pc)
      = some 0x0101 := by decide

theorem test_V208_RET_C_C_1_taken :
    (ran [0xD8] { State.reset with sp := 0xFFFC, af := 0x0110, mem := [(0xFFFD, 0x80)] }).map
        (fun t => (t.sp, t.pc))
      = some (0xFFFE, 0x8000) := by decide

theorem test_V210_RETI :
    (ran [0xD9] { State.reset with sp := 0xFFFC, ime := false, mem := [(0xFFFC, 0x03), (0xFFFD, 0x01)] }).map
        (fun t => (t.sp, t.pc, t.ime))
      = some (0xFFFE, 0x0103, true) := by decide

theorem test_V214_RST_38_SP_0001 :
    (ran [0xFF] { State.reset with sp := 0x0001 }).map
        (fun t => (t.sp, t.pc, Memory.read t.mem 0x0000, Memory.read t.mem 0xFFFF))
      = some (0xFFFF, 0x0038, 0x01, 0x01) := by decide

theorem test_V221_NOP :
    (ran [0x00] { State.reset with pc := 0xFFFF }).map
        (fun t => t.pc)
      = some 0x0000 := by decide

theorem test_V222_HALT :
    (ran [0x76] State.reset).map
        (fun t => (t.pc, t.halted))
      = some (0x0101, true) := by decide

theorem test_V225_STOP_with_second_byte_3C :
    (ran [0x10, 0x3C] State.reset).map
        (fun t => (t.pc, t.halted))
      = some (0x0102, true) := by decide

theorem test_V226_DI :
    (ran [0xF3] { State.reset with ime := true }).map
        (fun t => (t.pc, t.ime))
      = some (0x0101, false) := by decide

theorem test_V228_EI :
    (ran [0xFB] { State.reset with ime := false }).map
        (fun t => (t.pc, t.ime))
      = some (0x0101, true) := by decide

theorem test_V230_invalid_D3 :
    (ran [0xD3, 0x00] State.reset).map
        (fun t => (t.pc, t.faulted, t.faultOpcode))
      = some (0x0101, true, 0xD3) := by decide

theorem test_V243_prefix :
    (ran [0xCB, 0x38] { State.reset with bc := 0x0313, pc := 0xFFFF }).map
        (fun t => (t.bc, t.pc))
      = some (0x0113, 0x0001) := by decide

/-! ## The machine around the instructions -/

/-- H5 of the helper vectors' rules R101, R103: both carries through the carry in. -/
theorem test_adc8_sbc8_corner :
    adc8 0xFF 0x00 true = ⟨0x00, true, true⟩ ∧ sbc8 0x00 0xFF true = ⟨0x00, true, true⟩ := by decide

/-- R307: `IME = 1`, `PC = 0x0100`, `SP = 0xFFFE`, the vector `0x0040`. -/
theorem test_dispatch :
    (match step { State.reset with ime := true, halted := true, env := [.int 0x0040] } with
      | .next t => some (t.pc, t.sp, t.ime, t.halted, Memory.read t.mem 0xFFFD, t.cycles.length)
      | _ => none)
      = some (0x0040, 0xFFFC, false, false, 0x01, 5) := by decide

/-- R305, R325: without `IME` no dispatch, without a wait no wake-up. -/
theorem test_transitions_not_enabled :
    step { State.reset with env := [.int 0x0040] } = .refused .dispatchNotEnabled
      ∧ step { State.reset with env := [.wake] } = .refused .wakeNotEnabled := ⟨rfl, rfl⟩

/-- R119, R340: a faulted core stays; a reset clears it. -/
theorem test_fault_then_reset :
    step { State.reset with faulted := true } = .next { State.reset with faulted := true }
      ∧ step { State.reset with faulted := true, pc := 0x1234, env := [.reset] } = .next State.reset := ⟨rfl, rfl⟩

/-- R342: the other reset state it names, the power-on `PC = 0x0000`, as parameters; R24: `RESET_AF` is masked. -/
theorem test_reset_parameters :
    (match scheduledStepWith { Config.params with resetPC := 0x0000, resetAF := 0x12FF } { State.reset with env := [.reset] } with
      | .next t => some (t.pc, t.af, t.sp)
      | _ => none)
      = some (0x0000, 0x12F0, 0xFFFE) := by decide

/-- R114, R275: with `0x3E` in `INVALID_OPCODES` its byte, which has no row as an invalid opcode, is the fault's byte. -/
theorem test_invalid_opcodes_parameter :
    (match scheduledStepWith { invalidOpcodes := [0x3E] } { State.reset with mem := [(0x0100, 0x3E), (0x0101, 0x42)] } with
      | .next t => some (t.pc, t.af, t.faulted, t.faultOpcode)
      | _ => none)
      = some (0x0101, 0x01B0, true, 0x3E) := by decide

/-- R37, R325: a scheduled accessor write changes one flag. -/
theorem test_accessor_flag :
    (match step { State.reset with env := [.dbg (.flag .N true)] } with
      | .next t => some (t.af, t.pc)
      | _ => none)
      = some (0x01F0, 0x0100) := by decide

/-- R302: a third cycle asked of an instruction that stands at its second. -/
theorem test_protocol_violation :
    (match Clocked.advance (.idle { State.reset with mem := [(0x0100, 0x34)] }) with
      | .next (.executing 2 w) => (match cycleStep 3 2 w with
        | .fault .protocolViolation => true
        | _ => false)
      | _ => false) = true := by decide

/-- R56, R57: what another agent writes between two M-cycles is what the next one reads (`INC (HL)`). -/
theorem test_agent_between_cycles :
    (match Clocked.advance (.idle { State.reset with mem := [(0x0100, 0x34)], hl := 0xC000 }) with
      | .next c => (match Clocked.transition (.mem 0xC000 0x7F) c with
        | .next d => (match Clocked.advances 2 d with
          | .next (.idle t) => Memory.read t.mem 0xC000 == 0x80
          | _ => false)
        | _ => false)
      | _ => false) = true := by decide

/-! ## Witnesses of the obligations' hypotheses -/

/-- A running state with an instruction of three bytes at the top of memory. -/
def w0 : State := { State.reset with pc := 0xFFFF, mem := [(0x0000, 0x34), (0x0001, 0x12), (0xFFFF, 0xC3)] }

theorem test_witness_ResetOverridesEveryState :
    ({ w0 with faulted := true, halted := true, env := [.reset, .core] } : State).env = .reset :: [.core] := rfl

theorem test_witness_EveryStepKeepsTheInvariant : Inv w0 ∧ ∃ t, step w0 = .next t := ⟨⟨by decide, by decide⟩, _, rfl⟩

theorem test_witness_DecodeOfEncodeIsTheInstruction : (Instr.jp_nn 0xFFFF).wf = true := by decide

theorem test_witness_EncodeOfDecodeIsTheBytes :
    decode [0xC3, 0xFF, 0xFF, 0x00] = .ok (.jp_nn 0xFFFF, [0x00]) ∧ Instr.jp_nn 0xFFFF ≠ .stop := by decide

theorem test_witness_InvalidOpcodesAreTheEleven : decode3 0xFD 0 0 = instrOf (.invalid .xFD) := by decide

theorem test_witness_StepRunsTheDecodedInstruction :
    Running w0
      ∧ decode [Memory.read w0.mem w0.pc, Memory.read w0.mem (w0.pc + 1), Memory.read w0.mem (w0.pc + 2)]
        = .ok (.jp_nn 0x1234, []) := ⟨⟨rfl, rfl, rfl⟩, by decide⟩

theorem test_witness_SequentialInstructionsPassTheirBytes :
    Running State.reset ∧ transfersControl (formOf State.reset.instrAt) = false := ⟨⟨rfl, rfl, rfl⟩, by decide⟩

theorem test_witness_StepTakesTheTableMCycles : Running w0 := ⟨rfl, rfl, rfl⟩

theorem test_witness_LatchesHaveOnlyTheirWriters :
    Instr.nop ≠ .di ∧ Instr.nop ≠ .ei ∧ Instr.nop ≠ .reti ∧ Instr.nop ≠ .halt ∧ Instr.nop ≠ .stop
      ∧ ∀ k, formOf .nop ≠ .invalid k := ⟨nofun, nofun, nofun, nofun, nofun, nofun⟩

theorem test_witness_OtherInstructionsKeepTheFlags : writesFlags (formOf (.ld_A_n 0)) = false := by decide

/-- The boundary operands of the two decimal sums. -/
theorem test_witness_DecimalAdjustMakesBcd : (99 : Nat) < 100 ∧ (0 : Nat) < 100 := by decide

/-- Taken and not taken, for `CALL cc` and `RET cc`. -/
theorem test_witness_CallPushesTheReturnAddress :
    State.reset.flags.cond .Z = true ∧ State.reset.flags.cond .NZ = false := by decide

theorem test_witness_ReturnPopsPC : State.reset.flags.cond .C = true ∧ State.reset.flags.cond .NC = false := by decide

theorem test_witness_FaultedOrHaltedCoreExecutesNothing :
    ({ w0 with faulted := true } : State).faulted = true
      ∧ (∃ t, step { w0 with faulted := true } = .next t ∧ ∀ rest, ({ w0 with faulted := true } : State).env ≠ .reset :: rest)
      ∧ ({ w0 with halted := true } : State).faulted = false ∧ ({ w0 with halted := true } : State).halted = true :=
  ⟨rfl, ⟨_, rfl, nofun⟩, rfl, rfl⟩

/-- Each of the three cases of a dispatch. -/
theorem test_witness_DispatchEntersTheHandler :
    let s : State := { w0 with ime := true, sp := 0x0001, env := [.int 0x0060] }
    s.env = .int 0x0060 :: [] ∧ s.ime = true ∧ s.faulted = false ∧ { s with ime := false }.ime = false
      ∧ { s with faulted := true }.faulted = true := by decide

theorem test_witness_DispatchThenReturnRestores :
    let s : State := { w0 with ime := true, sp := 0x0000 }
    s.ime = true ∧ s.faulted = false := by decide

/-- Each of the three transitions, the wake-up enabled and not. -/
theorem test_witness_WakeAndAgentChangeWhatTheyName :
    let s : State := { w0 with halted := true, env := [.wake] }
    s.env = .wake :: [] ∧ s.halted = true ∧ s.faulted = false ∧ { s with halted := false }.halted = false
      ∧ { s with faulted := true }.faulted = true ∧ { s with env := [.mem 0xFFFF 0] }.env = .mem 0xFFFF 0 :: [] := by decide

theorem test_witness_DriverRefinesTheWholeInstruction : w0.faulted = false ∧ w0.halted = false := by decide

/-- Cycles on both sides of the next one, and a call after retirement. -/
theorem test_witness_InFlightOnlyTheNextCycleAnAgentOrAReset :
    (1 : Nat) ≠ 2 ∧ (3 : Nat) ≠ 2 ∧ ∃ s, Work.done w0 = .done s := ⟨by decide, by decide, _, rfl⟩

theorem test_witness_AccessorsReplaceWhatTheyName :
    ({ w0 with env := [.dbg (.flag .Z false)] } : State).env = .dbg (.flag .Z false) :: [] := rfl

/-- A byte in another set of invalid opcodes, `0x76` alone; a byte outside it; the prefix; the other hypotheses. -/
theorem test_witness_ResetAndDecodeTakeTheirParameters :
    let p : Config.Params := { invalidOpcodes := [0x76, 0xCB] }
    Memory.wf w0.mem = true ∧ w0.faulted = false ∧ w0.halted = false ∧ (0x76 : Byte) ≠ 0xCB ∧ 0x76 ∈ p.invalidOpcodes
      ∧ 0xD3 ∉ p.invalidOpcodes ∧ EnvEvent.wake ≠ .reset ∧ EnvEvent.wake ≠ .core := by decide

/-- `PUSH AF` and `POP AF` are forms of their statements. -/
theorem test_witness_PushWritesTheStack : instrOf (.push .AF) = .push_AF := rfl

theorem test_witness_PopReadsTheStack : instrOf (.pop .AF) = .pop_AF := rfl

end Sys2Proof.Tests
end

