-- ==== Sys2Proof/Proofs/Parameters.lean ====
section
/-! PROOFS. What the parameters of R4 change (O60): the reset takes its values from `RESET_*`, and CORE's turn depends on
`INVALID_OPCODES` alone, in the whole-instruction view and in the first M-cycle. -/

namespace Sys2Proof.Machine

open Sys2Proof.Safety

/-! ## The bytes of the default `INVALID_OPCODES` (R82) -/

/-- One byte is fetched of each of the eleven. -/
theorem fetchCount_default_invalid {op : Byte} (h : Config.params.invalidOpcodes.contains op = true) :
    fetchCount op = 1 := by
  revert op; decide

/-- The table's row for each of the eleven is the invalid-opcode behaviour of its byte (R275). -/
theorem formWork_default_invalid {op : Byte} (h : Config.params.invalidOpcodes.contains op = true) (b1 b2 : Byte)
    (s : State) : formWork (plainForm op b1 b2) s = invalidOpcode op s := by
  obtain ⟨k, hk, hf⟩ := Option.map_eq_some_iff.mp (invalid_default op b1 b2 h)
  rw [← hf, ← invalidByte_of_row hk]
  rfl

/-! ## The whole-instruction view -/

theorem beq_cbPrefixByte {op : Byte} (h : op ≠ 0xCB) : (op == Config.cbPrefixByte) = false := beq_false_of_ne h

/-- A byte of the set other than `0xCB` is one byte long. -/
theorem fetchCountWith_of_mem {invalidOpcodes : List Byte} {op : Byte} (hcb : op ≠ 0xCB) (hm : op ∈ invalidOpcodes) :
    fetchCountWith invalidOpcodes op = 1 := by
  simp [fetchCountWith, lengthWith, bne, beq_cbPrefixByte hcb, hm]

/-- Of any other byte the set does not change the length. -/
theorem fetchCountWith_of_not_mem {invalidOpcodes : List Byte} {op : Byte} (h : op = 0xCB ∨ op ∉ invalidOpcodes) :
    fetchCountWith invalidOpcodes op = fetchCount op := by
  rcases h with hcb | hm
  · simp [fetchCountWith, fetchCount, lengthWith, Config.cbPrefixByte, hcb]
  · simp [fetchCountWith, fetchCount, lengthWith, hm]

/-- A byte of the set at `PC` selects the invalid-opcode behaviour (R114). -/
theorem State.behaviourAt_of_mem {invalidOpcodes : List Byte} {s : State} (hcb : s.opcodeByte ≠ 0xCB)
    (hm : s.opcodeByte ∈ invalidOpcodes) : s.behaviourAt invalidOpcodes = .invalid s.opcodeByte := by
  simp [State.behaviourAt, behaviourOf, plainBehaviour, beq_cbPrefixByte hcb, hm]

/-- On any other byte the behaviour is that of its row of the table, also for one of the eleven (log 25). -/
theorem runBehaviour_behaviourAt_of_not_mem {invalidOpcodes : List Byte} {s : State}
    (h : s.opcodeByte = 0xCB ∨ s.opcodeByte ∉ invalidOpcodes) (t : State) :
    runBehaviour (s.behaviourAt invalidOpcodes) t = exec s.instrAt t := by
  rw [State.instrAt, decode3, decodeForm_eq, State.behaviourAt, behaviourOf, plainBehaviour]
  rcases h with hcb | hm
  · simp [Config.cbPrefixByte, hcb, runBehaviour]
  · cases s.opcodeByte == Config.cbPrefixByte <;> simp [hm, runBehaviour]

/-- CORE's turn on a byte of the set: one fetch, then the fault with that byte (R275, R301). -/
theorem advanceWith_of_mem {p : Config.Params} {s : State} (hf : s.faulted = false) (hh : s.halted = false)
    (hcb : s.opcodeByte ≠ 0xCB) (hm : s.opcodeByte ∈ p.invalidOpcodes) :
    advanceWith p s = .next ((s.fetched 1).raiseUnsupportedOpcode s.opcodeByte) := by
  simp [advanceWith, hf, hh, State.behaviourAt_of_mem hcb hm, fetchCountWith_of_mem hcb hm]

/-- CORE's turn on any other byte is that of the defaults. -/
theorem advanceWith_of_not_mem {p : Config.Params} {s : State}
    (h : s.opcodeByte = 0xCB ∨ s.opcodeByte ∉ p.invalidOpcodes) : advanceWith p s = advance s := by
  cases hf : s.faulted
  · cases hh : s.halted
    · rw [advance_running hf hh, ← runBehaviour_behaviourAt_of_not_mem h, ← fetchCountWith_of_not_mem h]
      simp [advanceWith, hf, hh]
    · rw [advance_halted hf hh, advanceWith_halted p hf hh]
  · rw [advance_faulted hf, advanceWith_faulted p hf]

/-! ## The first M-cycle -/

/-- After a fault the driver stays as it is (R119), whatever the parameters. -/
theorem Clocked.advanceWith_faulted (p : Config.Params) {s : State} (hf : s.faulted = true) :
    Clocked.advanceWith p (.idle s) = .next (.idle s) := by
  simp [Clocked.advanceWith, hf]

/-- While halted an advance is one internal M-cycle (R118), whatever the parameters. -/
theorem Clocked.advanceWith_halted (p : Config.Params) {s : State} (hf : s.faulted = false) (hh : s.halted = true) :
    Clocked.advanceWith p (.idle s) = .next (.idle s.afterInternal) := by
  simp [Clocked.advanceWith, hf, hh]

/-- Else the driver performs the first M-cycle of the instruction at `PC` (R116). -/
theorem Clocked.advanceWith_running (p : Config.Params) {s : State} (hf : s.faulted = false) (hh : s.halted = false) :
    Clocked.advanceWith p (.idle s) = .next (settle 2 (s.instrWorkWith p).perform) := by
  simp only [Clocked.advanceWith, hf, hh, cond_false]
  rfl

@[simp] theorem State.fetching_perform (s : State) (k : Byte → State → Work) :
    (s.fetching k).perform = k s.opcodeByte (s.fetched 1) := rfl

/-- On a byte of the set the first M-cycle leaves the invalid-opcode behaviour to do. -/
theorem State.instrWorkWith_perform_of_mem {p : Config.Params} {s : State} (hcb : s.opcodeByte ≠ 0xCB)
    (hm : s.opcodeByte ∈ p.invalidOpcodes) :
    (s.instrWorkWith p).perform = invalidOpcode s.opcodeByte (s.fetched 1) := by
  simp [State.instrWorkWith, beq_cbPrefixByte hcb, hm]

/-- On any other byte the first M-cycle leaves the same work to do as at the defaults. -/
theorem State.instrWorkWith_perform_of_not_mem {p : Config.Params} {s : State}
    (h : s.opcodeByte = 0xCB ∨ s.opcodeByte ∉ p.invalidOpcodes) :
    (s.instrWorkWith p).perform = s.instrWork.perform := by
  simp only [State.instrWork, State.instrWorkWith, State.fetching_perform]
  rcases h with hcb | hm
  · simp [Config.cbPrefixByte, hcb]
  · have hp : p.invalidOpcodes.contains s.opcodeByte = false := by simpa using hm
    cases hd : Config.params.invalidOpcodes.contains s.opcodeByte
    · simp only [hp]
    · simp only [hp, cond_false, cond_true, fetchCount_default_invalid hd, formWork_default_invalid hd]

/-- The first M-cycle on a byte of the set takes the fault and retires. -/
theorem Clocked.advanceWith_of_mem {p : Config.Params} {s : State} (hf : s.faulted = false) (hh : s.halted = false)
    (hcb : s.opcodeByte ≠ 0xCB) (hm : s.opcodeByte ∈ p.invalidOpcodes) :
    Clocked.advanceWith p (.idle s) = .next (.idle ((s.fetched 1).raiseUnsupportedOpcode s.opcodeByte)) := by
  rw [Clocked.advanceWith_running p hf hh, State.instrWorkWith_perform_of_mem hcb hm, invalidOpcode, settle]

/-- The first M-cycle on any other byte is that of the defaults. -/
theorem Clocked.advanceWith_of_not_mem {p : Config.Params} {s : State}
    (h : s.opcodeByte = 0xCB ∨ s.opcodeByte ∉ p.invalidOpcodes) :
    Clocked.advanceWith p (.idle s) = Clocked.advance (.idle s) := by
  rw [Clocked.advance]
  cases hf : s.faulted
  · cases hh : s.halted
    · simp only [Clocked.advanceWith_running _ hf hh, State.instrWorkWith_perform_of_not_mem h, State.instrWork]
    · simp only [Clocked.advanceWith_halted _ hf hh]
  · simp only [Clocked.advanceWith_faulted _ hf]

/-! ## The frame, and the invariant -/

/-- One fetch and the fault change `PC` and the fault latch alone (R27, R301). -/
theorem State.fetched_raiseUnsupportedOpcode_keptBut (s : State) (n : Nat) (b : Byte) :
    KeptBut { fault := true, pc := true } s ((s.fetched n).raiseUnsupportedOpcode b) := by
  constructor <;> simp

/-- A masked `AF` has its low nibble zero (R24). -/
theorem lo_mask_lowNibble (w : Word) : lo (w &&& 0xFFF0) &&& 0x0F = 0 := by
  rw [lo_and, BitVec.and_assoc]
  exact BitVec.and_zero

/-- The state after reset meets the invariant, whatever the parameters. -/
theorem State.resetWith_inv (p : Config.Params) : Inv (State.resetWith p) :=
  ⟨rfl, lo_mask_lowNibble p.resetAF⟩

/-- A reset of a state whose memory is canonical meets the invariant, whatever the parameters. -/
theorem State.resetCoreWith_inv (p : Config.Params) {s : State} (h : Memory.wf s.mem = true) :
    Inv (s.resetCoreWith p) :=
  ⟨h, lo_mask_lowNibble p.resetAF⟩

end Sys2Proof.Machine

namespace Sys2Proof.Proofs

open Sys2Proof.Machine

/-- Settles O60: a byte of the set takes the fault in one fetch, and on any other byte both views agree with the
defaults, since the table's rows of the eleven are the same behaviour. -/
theorem resetAndDecodeTakeTheirParameters : Obligations.ResetAndDecodeTakeTheirParameters := by
  intro p s b
  refine ⟨⟨s.resetCoreWith p, rfl, ?_⟩, State.resetWith_inv p, fun hf hh hcb hm => ?_, fun h => ?_,
    fun e hr hc => transitionWith_eq p hr hc s, rfl⟩
  · simpa using State.resetCoreWith_inv p
  · exact ⟨_, advanceWith_of_mem hf hh hcb hm, Clocked.advanceWith_of_mem hf hh hcb hm, rfl, rfl, rfl, rfl,
      State.fetched_raiseUnsupportedOpcode_keptBut s 1 b⟩
  · exact ⟨advanceWith_of_not_mem h, Clocked.advanceWith_of_not_mem h⟩

end Sys2Proof.Proofs
end

