-- ==== Sys2Proof/Proofs/StateChanges.lean ====
section
/-! PROOFS. The state and its changes (`10_state.md`). What an operation can change is said once: `Evolves c s t` holds
when `t` comes from `s` by M-cycles and by writes of what `c` names. From it follow the frame (`KeptBut`) and the
invariant. `formChanges` gives each form's `Changes`. Then the obligations: reset and the invariant (O1, O3, O4), the fetch
(O11), `PC`, the latches and `F` after an instruction (O12, O15, O16), the accessors (O57). -/

namespace Sys2Proof.Safety

open Sys2Proof.Machine

/-- What is kept by two changes in a row. -/
theorem KeptBut.trans {c : Changes} {s t u : State} (h : KeptBut c s t) (k : KeptBut c t u) : KeptBut c s u where
  regs r hr := (k.regs r hr).trans (h.regs r hr)
  flags hc := (k.flags hc).trans (h.flags hc)
  sp hc := (k.sp hc).trans (h.sp hc)
  pc hc := (k.pc hc).trans (h.pc hc)
  ime hc := (k.ime hc).trans (h.ime hc)
  halted hc := (k.halted hc).trans (h.halted hc)
  fault hc := ⟨(k.fault hc).1.trans (h.fault hc).1, (k.fault hc).2.trans (h.fault hc).2⟩
  memory a ha := (k.memory a ha).trans (h.memory a ha)
  schedule := k.schedule.trans h.schedule

/-- What `c` names if the condition `b` holds, else nothing. -/
def Changes.onlyIf (b : Bool) (c : Changes) : Changes where
  regs := bif b then c.regs else []
  flags := c.flags && b
  sp := c.sp && b
  pc := c.pc && b
  ime := c.ime && b
  halted := c.halted && b
  fault := c.fault && b
  stores := bif b then c.stores else []

/-- The invariant speaks of the memory and of the stored `AF` alone. -/
theorem Inv.of_eq {s t : State} (h : Inv s) (hm : t.mem = s.mem) (ha : t.af = s.af) : Inv t :=
  ⟨hm ▸ h.memory, ha ▸ h.lowNibble⟩

end Sys2Proof.Safety

namespace Sys2Proof.Machine

open Sys2Proof.Safety

/-- `t` comes from `s` by M-cycles, each recorded in the trace, and by writes of registers, flags, latches and memory
bytes that `c` names. -/
inductive Evolves (c : Changes) (s : State) : State → Prop
  | refl : Evolves c s s
  | afterRead {t : State} (h : Evolves c s t) (a : Word) : Evolves c s (t.afterRead a)
  | afterWrite {t : State} (h : Evolves c s t) {a : Word} (ha : a ∈ c.stores) (v : Byte) : Evolves c s (t.afterWrite a v)
  | afterInternal {t : State} (h : Evolves c s t) : Evolves c s t.afterInternal
  | setR8 {t : State} (h : Evolves c s t) {r : Reg8} (hr : r ∈ c.regs) (v : Byte) : Evolves c s (t.setR8 r v)
  | setF {t : State} (h : Evolves c s t) (hf : c.flags = true) (v : Byte) : Evolves c s (t.setF v)
  | setSP {t : State} (h : Evolves c s t) (hsp : c.sp = true) (w : Word) : Evolves c s (t.setSP w)
  | setPC {t : State} (h : Evolves c s t) (hpc : c.pc = true) (w : Word) : Evolves c s (t.setPC w)
  | setIME {t : State} (h : Evolves c s t) (hi : c.ime = true) (b : Bool) : Evolves c s (t.setIME b)
  | setHalted {t : State} (h : Evolves c s t) (hh : c.halted = true) (b : Bool) : Evolves c s (t.setHalted b)
  | raise {t : State} (h : Evolves c s t) (hx : c.fault = true) (b : Byte) : Evolves c s (t.raiseUnsupportedOpcode b)

/-! ## What follows from an evolution -/

/-- A write at an address that `c` names keeps all else. -/
theorem State.afterWrite_keptBut {c : Changes} {a : Word} (ha : a ∈ c.stores) (s : State) (v : Byte) :
    KeptBut c s (s.afterWrite a v) := by
  have hm : ∀ b, b ∉ c.stores → b ≠ a := fun b hb e => hb (e ▸ ha)
  constructor
  case memory => exact fun b hb => Memory.read_write_other s.mem v (hm b hb)
  all_goals simp

/-- A write of a register that `c` names keeps all else. -/
theorem State.setR8_keptBut {c : Changes} {r : Reg8} (hr : r ∈ c.regs) (s : State) (v : Byte) :
    KeptBut c s (s.setR8 r v) := by
  have hx : ∀ x, x ∉ c.regs → x ≠ r := fun x hx e => hx (e ▸ hr)
  constructor
  case regs => exact fun x h => by rw [State.setR8_r8, if_neg (hx x h)]
  all_goals simp

/-- An evolution leaves everything unchanged that its `Changes` do not name. -/
theorem Evolves.keptBut {c : Changes} {s t : State} (h : Evolves c s t) : KeptBut c s t := by
  induction h with
  | refl => constructor <;> simp
  | afterRead _ _ ih | afterInternal _ ih => exact ih.trans (by constructor <;> simp)
  | afterWrite _ ha v ih => exact ih.trans (State.afterWrite_keptBut ha _ v)
  | setR8 _ hr v ih => exact ih.trans (State.setR8_keptBut hr _ v)
  | setF _ hc _ ih | setSP _ hc _ ih | setPC _ hc _ ih | setIME _ hc _ ih | setHalted _ hc _ ih | raise _ hc _ ih =>
    exact ih.trans (by constructor <;> simp [hc])

/-- A write of a register keeps the invariant: a write of `A` masks `F` (R24). -/
theorem State.setR8_inv {s : State} (h : Inv s) (r : Reg8) (v : Byte) : Inv (s.setR8 r v) := by
  cases r with
  | A => exact ⟨h.memory, lo_mask_lowNibble _⟩
  | _ => exact Inv.of_eq h rfl rfl

/-- An evolution keeps the invariant. -/
theorem Evolves.inv {c : Changes} {s t : State} (h : Evolves c s t) (hs : Inv s) : Inv t := by
  induction h with
  | refl => exact hs
  | afterWrite _ _ v ih => exact ⟨Memory.wf_write ih.memory _ v, ih.lowNibble⟩
  | setR8 _ _ v ih => exact State.setR8_inv ih _ v
  | setF _ _ _ ih => exact ⟨ih.memory, lo_mask_lowNibble _⟩
  | afterRead _ _ ih | afterInternal _ ih | setSP _ _ _ ih | setPC _ _ _ ih | setIME _ _ _ ih | setHalted _ _ _ ih
  | raise _ _ _ ih => exact Inv.of_eq ih rfl rfl

/-! ## The writes of several registers -/

section
variable {c : Changes} {s t : State} (h : Evolves c s t)
include h

theorem Evolves.setFlags (hf : c.flags = true) (fl : Flags) : Evolves c s (t.setFlags fl) := h.setF hf fl.toByte

theorem Evolves.setAF (hA : .A ∈ c.regs) (hf : c.flags = true) (w : Word) : Evolves c s (t.setAF w) := by
  have e : (t.setR8 .A (hi w)).setF (lo w) = t.setAF w := by simp [State.setR8, State.setF, State.setAF]
  exact e ▸ (h.setR8 hA (hi w)).setF hf (lo w)

theorem Evolves.setHL (hr : [.H, .L] ⊆ c.regs) (w : Word) : Evolves c s (t.setHL w) := by
  have e : (t.setR8 .H (hi w)).setR8 .L (lo w) = t.setHL w := by simp [State.setR8, State.setHL]
  exact e ▸ (h.setR8 (hr (by simp)) (hi w)).setR8 (hr (by simp)) (lo w)

theorem Evolves.setDE (hr : [.D, .E] ⊆ c.regs) (w : Word) : Evolves c s { t with de := w } := by
  have e : (t.setR8 .D (hi w)).setR8 .E (lo w) = { t with de := w } := by simp [State.setR8]
  exact e ▸ (h.setR8 (hr (by simp)) (hi w)).setR8 (hr (by simp)) (lo w)

theorem Evolves.setBC (hr : [.B, .C] ⊆ c.regs) (w : Word) : Evolves c s { t with bc := w } := by
  have e : (t.setR8 .B (hi w)).setR8 .C (lo w) = { t with bc := w } := by simp [State.setR8]
  exact e ▸ (h.setR8 (hr (by simp)) (hi w)).setR8 (hr (by simp)) (lo w)

theorem Evolves.setPair {p : Pair} (hr : pairRegs p ⊆ c.regs) (hsp : p = .SP → c.sp = true) (w : Word) :
    Evolves c s (t.setPair p w) := by
  cases p with
  | BC => exact h.setBC hr w
  | DE => exact h.setDE hr w
  | HL => exact h.setHL hr w
  | SP => exact h.setSP (hsp rfl) w

theorem Evolves.setStackPair {q : StackPair} (hr : stackPairRegs q ⊆ c.regs) (hf : q = .AF → c.flags = true) (w : Word) :
    Evolves c s (t.setStackPair q w) := by
  cases q with
  | BC => exact h.setBC hr w
  | DE => exact h.setDE hr w
  | HL => exact h.setHL hr w
  | AF => exact h.setAF (hr List.mem_cons_self) (hf rfl) w

theorem Evolves.accUpdate (hr : [.H, .L] ⊆ c.regs) (m : AccMode) : Evolves c s (t.accUpdate m) := by
  cases m with
  | atHLinc | atHLdec => exact h.setHL hr _
  | _ => exact h

end

/-! ## The fetch, the dispatch and the accessors -/

/-- `n` fetches change `PC` alone (R27). -/
theorem State.fetched_evolves (s : State) (n : Nat) : Evolves { pc := true } s (s.fetched n) := by
  suffices h : ∀ t, Evolves { pc := true } s t → Evolves { pc := true } s (t.fetched n) from h s .refl
  induction n with
  | zero => exact fun t h => h
  | succ n ih => exact fun t h => ih _ ((h.afterRead t.pc).setPC rfl (t.pc + 1))

/-- What a push of two bytes may change, and so every call (R9). -/
def State.pushChanges (s : State) : Changes := { sp := true, stores := [s.sp - 1, s.sp - 2] }

/-- The state after `Push16(v)`. -/
def State.pushed (s : State) (v : Word) : State := (s.push16 v .done).run

/-- The state after `Pop16()`. -/
def State.popped (s : State) : State := (s.popping fun _ t => .done t).run

/-- A push writes `SP` and the two bytes below it. -/
theorem Evolves.pushed {c : Changes} {s t : State} (h : Evolves c s t) (hsp : c.sp = true)
    (hs : t.pushChanges.stores ⊆ c.stores) (v : Word) : Evolves c s (t.pushed v) := by
  have hh : t.sp - 1 ∈ c.stores := hs (by simp [State.pushChanges])
  have hl : t.sp - 1 - 1 ∈ c.stores := hs (by simp [State.pushChanges])
  exact (((h.setSP hsp (t.sp - 1)).afterWrite hh (hi v)).setSP hsp (t.sp - 1 - 1)).afterWrite hl (lo v)

/-- A pop writes `SP`. -/
theorem Evolves.popped {c : Changes} {s t : State} (h : Evolves c s t) (hsp : c.sp = true) : Evolves c s t.popped :=
  (((h.afterRead t.sp).setSP hsp (t.sp + 1)).afterRead (t.sp + 1)).setSP hsp (t.sp + 1 + 1)

/-- A dispatch clears the latches, pushes and sets `PC`, and changes nothing else (R307). -/
theorem State.dispatch_evolves (s : State) (v : Word) :
    Evolves { s.pushChanges with ime := true, halted := true, pc := true } s (s.dispatch v).run := by
  have h : Evolves { s.pushChanges with ime := true, halted := true, pc := true } s s := .refl
  have hi := ((h.setIME rfl false).setHalted rfl false).afterInternal.afterInternal
  exact ((hi.pushed rfl (List.Subset.refl _) s.pc).setPC rfl v).afterInternal

/-- A write through an accessor changes what `accessorChanges` names (R22, R37). -/
theorem State.accessorWrite_evolves (s : State) (w : AccessorWrite) :
    Evolves (accessorChanges w) s (s.accessorWrite w) := by
  have h : Evolves (accessorChanges w) s s := .refl
  cases w with
  | reg16 r v =>
    cases r with
    | AF => exact h.setAF (List.mem_singleton_self _) rfl v
    | BC => exact h.setBC (List.Subset.refl _) v
    | DE => exact h.setDE (List.Subset.refl _) v
    | HL => exact h.setHL (List.Subset.refl _) v
    | SP => exact h.setSP rfl v
    | PC => exact h.setPC rfl v
  | reg8 r v =>
    cases r with
    | F => exact h.setF rfl v
    | _ => exact h.setR8 (List.mem_singleton_self _) v
  | flag f b => exact h.setFlags rfl _
  | ime b => exact h.setIME rfl b
  | halted b => exact h.setHalted rfl b

/-! ## The work of the forms -/

/-- What a write of a pair of column `rp` may change. -/
def pairChanges (p : Pair) : Changes := { regs := pairRegs p, sp := decide (p = .SP) }

/-- What a write of an 8-bit operand may change, with `HL = a`. -/
def opndChanges (x : Opnd8) (a : Word) : Changes where
  regs := match x with
    | .reg r => [r]
    | .atHL => []
  stores := match x with
    | .reg _ => []
    | .atHL => [a]

/-- What a CB-space instruction may change, with `HL = a`. -/
def cbChanges (f : CbForm) (a : Word) : Changes :=
  match f with
  | .rot _ x => { opndChanges x a with flags := true }
  | .bit _ _ => { flags := true }
  | .res _ x => opndChanges x a
  | .set _ x => opndChanges x a

/-- What an accumulator operation may change: `CP` writes no `A` (R197 to R199). -/
def aluChanges (op : AluOp) : Changes where
  regs := match op with
    | .cp => []
    | _ => [.A]
  flags := true

/-- What an instruction may change once its bytes are fetched: the registers, flags and addresses that its rule names. -/
def formChanges (f : Form) (s : State) : Changes :=
  match f with
  | .nop => {}
  | .halt => { halted := true }
  | .stop => { halted := true, pc := true }
  | .di => { ime := true }
  | .ei => { ime := true }
  | .invalid _ => { fault := true }
  | .cbPrefix => { cbChanges (cbFormOf (Memory.read s.mem s.pc)) s.hl with pc := true }
  | .ldRegReg d _ => { regs := [d] }
  | .ldRegImm d _ => { regs := [d] }
  | .ldRegAtHL d => { regs := [d] }
  | .ldAtHLReg _ => { stores := [s.hl] }
  | .ldAtHLImm _ => { stores := [s.hl] }
  | .loadA _ => { regs := [.A, .H, .L] }
  | .storeA m => { regs := [.H, .L], stores := [s.accAddr m] }
  | .ldPairImm p _ => pairChanges p
  | .ldAtNnSP nn => { stores := [nn, nn + 1] }
  | .ldSPHL => { sp := true }
  | .push _ => s.pushChanges
  | .pop q => { regs := stackPairRegs q, flags := decide (q = .AF), sp := true }
  | .ldHLSPe _ => { regs := [.H, .L], flags := true }
  | .alu op _ => aluChanges op
  | .incReg r => { regs := [r], flags := true }
  | .incAtHL => { flags := true, stores := [s.hl] }
  | .decReg r => { regs := [r], flags := true }
  | .decAtHL => { flags := true, stores := [s.hl] }
  | .daa => { regs := [.A], flags := true }
  | .cpl => { regs := [.A], flags := true }
  | .scf => { flags := true }
  | .ccf => { flags := true }
  | .addHL _ => { regs := [.H, .L], flags := true }
  | .incPair p => pairChanges p
  | .decPair p => pairChanges p
  | .addSPe _ => { sp := true, flags := true }
  | .rlca => { regs := [.A], flags := true }
  | .rrca => { regs := [.A], flags := true }
  | .rla => { regs := [.A], flags := true }
  | .rra => { regs := [.A], flags := true }
  | .cb f => cbChanges f s.hl
  | .jp _ => { pc := true }
  | .jpCond _ _ => { pc := true }
  | .jpHL => { pc := true }
  | .jr _ => { pc := true }
  | .jrCond _ _ => { pc := true }
  | .call _ => { s.pushChanges with pc := true }
  | .callCond cc _ => Changes.onlyIf (s.flags.cond cc) { s.pushChanges with pc := true }
  | .ret => { pc := true, sp := true }
  | .retCond cc => Changes.onlyIf (s.flags.cond cc) { pc := true, sp := true }
  | .reti => { pc := true, sp := true, ime := true }
  | .rst _ => { s.pushChanges with pc := true }

section
variable {c : Changes} {s t : State} (h : Evolves c s t)
include h

/-- The right operand of an accumulator operation is a value and at most one read. -/
theorem Evolves.withAluSrc (x : AluSrc) {k : Byte → State → Work}
    (hk : ∀ v u, Evolves c s u → Evolves c s (k v u).run) : Evolves c s (t.withAluSrc x k).run := by
  cases x with
  | reg r => exact hk _ t h
  | atHL => exact hk _ _ (h.afterRead t.hl)
  | imm n => exact hk n t h

/-- An 8-bit operand is read with at most one M-cycle, which leaves `HL` alone. -/
theorem Evolves.withOpnd8 (x : Opnd8) {k : Byte → State → Work}
    (hk : ∀ v u, Evolves c s u → u.hl = t.hl → Evolves c s (k v u).run) : Evolves c s (t.withOpnd8 x k).run := by
  cases x with
  | reg r => exact hk _ t h rfl
  | atHL => exact hk _ _ (h.afterRead t.hl) rfl

/-- An 8-bit operand is written in its register, or at `HL`. -/
theorem Evolves.putOpnd8 {x : Opnd8} {a : Word} (ha : t.hl = a) (hr : (opndChanges x a).regs ⊆ c.regs)
    (hs : (opndChanges x a).stores ⊆ c.stores) (v : Byte) {k : State → Work}
    (hk : ∀ u, Evolves c s u → Evolves c s (k u).run) : Evolves c s (t.putOpnd8 x v k).run := by
  cases x with
  | reg r => exact hk _ (h.setR8 (hr List.mem_cons_self) v)
  | atHL => exact hk _ (h.afterWrite (hs (ha ▸ List.mem_cons_self)) v)

/-- A CB-space instruction changes what `cbChanges` names, if `c` allows it. -/
theorem Evolves.cbWork {f : CbForm} (hr : (cbChanges f t.hl).regs ⊆ c.regs) (hs : (cbChanges f t.hl).stores ⊆ c.stores)
    (hf : (cbChanges f t.hl).flags = true → c.flags = true) : Evolves c s (runCb f t).run := by
  unfold runCb
  cases f with
  | rot op x =>
    unfold rotOpnd
    refine h.withOpnd8 x fun v u hu e => hu.putOpnd8 e hr hs _ fun w hw => ?_
    exact hw.setFlags (hf rfl) _
  | bit b x =>
    unfold bitOpnd
    refine h.withOpnd8 x fun v u hu e => ?_
    exact hu.setFlags (hf rfl) _
  | res b x =>
    unfold resOpnd
    exact h.withOpnd8 x fun v u hu e => hu.putOpnd8 e hr hs _ fun w hw => hw
  | set b x =>
    unfold setOpnd
    exact h.withOpnd8 x fun v u hu e => hu.putOpnd8 e hr hs _ fun w hw => hw

end

/-- An accumulator operation writes the flags, and `A` unless it is `CP`. -/
theorem alu_evolves (op : AluOp) (x : AluSrc) (s : State) : Evolves (aluChanges op) s (alu op x s).run := by
  refine Evolves.refl.withAluSrc x fun v u hu => ?_
  cases op with
  | cp => exact hu.setFlags rfl _
  | _ => exact (hu.setR8 (List.mem_singleton_self _) _).setFlags rfl _

/-- Taken, a call; not taken, nothing (R257). -/
theorem callCond_evolves (cc : Cond) (nn : Word) (s : State) :
    Evolves (formChanges (.callCond cc nn) s) s (callCond cc nn s).run := by
  rw [callCond, formChanges]
  cases s.flags.cond cc with
  | false => exact .refl
  | true =>
    have h : Evolves { s.pushChanges with pc := true } s s := .refl
    exact (h.afterInternal.pushed rfl (List.Subset.refl _) s.pc).setPC rfl nn

/-- Taken, a return; not taken, the M-cycle that evaluates the condition (R259). -/
theorem retCond_evolves (cc : Cond) (s : State) : Evolves (formChanges (.retCond cc) s) s (retCond cc s).run := by
  rw [retCond, formChanges, State.idling_run, State.afterInternal_flags]
  cases s.flags.cond cc with
  | false => exact Evolves.refl.afterInternal
  | true => exact (Evolves.refl.afterInternal.popped rfl).afterInternal.setPC rfl _

theorem jpCond_evolves (cc : Cond) (nn : Word) (s : State) : Evolves { pc := true } s (jpCond cc nn s).run := by
  rw [jpCond]
  cases s.flags.cond cc with
  | false => exact .refl
  | true => exact Evolves.refl.afterInternal.setPC rfl nn

theorem jrCond_evolves (cc : Cond) (e : Byte) (s : State) : Evolves { pc := true } s (jrCond cc e s).run := by
  rw [jrCond]
  cases s.flags.cond cc with
  | false => exact .refl
  | true => exact Evolves.refl.afterInternal.setPC rfl _

/-- The work of every form changes what `formChanges` names, and nothing else. -/
theorem formWork_evolves (f : Form) (s : State) : Evolves (formChanges f s) s (formWork f s).run := by
  have h : Evolves (formChanges f s) s s := .refl
  cases f with
  | nop => exact h
  | halt => exact h.setHalted rfl true
  | stop => exact (h.setPC rfl _).setHalted rfl true
  | di => exact h.setIME rfl false
  | ei => exact h.setIME rfl true
  | invalid k => exact h.raise rfl _
  | cbPrefix =>
    exact ((h.afterRead s.pc).setPC rfl (s.pc + 1)).cbWork (List.Subset.refl _) (List.Subset.refl _) (fun hx => hx)
  | ldRegReg d r | ldRegImm d n => exact h.setR8 (List.mem_singleton_self _) _
  | ldRegAtHL d => exact (h.afterRead s.hl).setR8 (List.mem_singleton_self _) _
  | ldAtHLReg r | ldAtHLImm n => exact h.afterWrite (List.mem_singleton_self s.hl) _
  | loadA m =>
    exact ((h.afterRead (s.accAddr m)).setR8 List.mem_cons_self _).accUpdate (List.subset_cons_self _ _) m
  | storeA m =>
    exact (h.afterWrite (List.mem_singleton_self (s.accAddr m)) _).accUpdate (List.Subset.refl _) m
  | ldPairImm p nn => exact h.setPair (List.Subset.refl _) decide_eq_true nn
  | ldAtNnSP nn =>
    exact (h.afterWrite (a := nn) (by simp [formChanges]) _).afterWrite (a := nn + 1) (by simp [formChanges]) _
  | ldSPHL => exact h.afterInternal.setSP rfl _
  | push q => exact h.afterInternal.pushed rfl (List.Subset.refl _) (s.afterInternal.stackPair q)
  | pop q => exact (h.popped rfl).setStackPair (List.Subset.refl _) decide_eq_true _
  | ldHLSPe e => exact (h.afterInternal.setHL (List.Subset.refl _) _).setFlags rfl _
  | alu op x => exact alu_evolves op x s
  | incReg r | decReg r => exact (h.setR8 (List.mem_singleton_self _) _).setFlags rfl _
  | incAtHL | decAtHL =>
    exact ((h.afterRead s.hl).afterWrite (List.mem_singleton_self s.hl) _).setFlags rfl _
  | daa | cpl | rlca | rrca | rla | rra => exact (h.setR8 (List.mem_singleton_self _) _).setFlags rfl _
  | scf | ccf => exact h.setFlags rfl _
  | addHL p => exact (h.afterInternal.setHL (List.Subset.refl _) _).setFlags rfl _
  | incPair p | decPair p => exact h.afterInternal.setPair (List.Subset.refl _) decide_eq_true _
  | addSPe e => exact (h.afterInternal.afterInternal.setSP rfl _).setFlags rfl _
  | cb f => exact h.cbWork (List.Subset.refl _) (List.Subset.refl _) (fun hx => hx)
  | jp nn | jr e => exact h.afterInternal.setPC rfl _
  | jpCond cc nn => exact jpCond_evolves cc nn s
  | jpHL => exact h.setPC rfl _
  | jrCond cc e => exact jrCond_evolves cc e s
  | call nn | rst t => exact (h.afterInternal.pushed rfl (List.Subset.refl _) s.pc).setPC rfl _
  | callCond cc nn => exact callCond_evolves cc nn s
  | ret => exact (h.popped rfl).afterInternal.setPC rfl _
  | retCond cc => exact retCond_evolves cc s
  | reti => exact ((h.popped rfl).afterInternal.setPC rfl _).setIME rfl true

/-! ## The invariant -/

/-- An instruction keeps the invariant. -/
theorem exec_inv {i : Instr} {s t : State} (h : Inv s) (ht : exec i s = .next t) : Inv t := by
  rw [exec_eq] at ht
  cases ht
  exact (formWork_evolves _ s).inv h

/-- CORE's turn keeps the invariant. -/
theorem advance_inv {s t : State} (h : Inv s) (ht : advance s = .next t) : Inv t := by
  cases hf : s.faulted
  · cases hh : s.halted
    · rw [advance_running hf hh] at ht
      exact exec_inv ((s.fetched_evolves _).inv h) ht
    · rw [advance_halted hf hh] at ht
      cases ht
      exact h.of_eq rfl rfl
  · rw [advance_faulted hf] at ht
    cases ht
    exact h

/-- Every transition of R325 keeps the invariant. -/
theorem transition_inv {e : EnvEvent} {s t : State} (h : Inv s) (ht : transition e s = .next t) : Inv t := by
  cases e with
  | core => exact advance_inv h ht
  | int v =>
    cases hd : s.dispatchEnabled with
    | false => simp [hd] at ht
    | true =>
      simp only [transition_int, hd, cond_true] at ht
      cases ht
      exact (s.dispatch_evolves v).inv h
  | wake =>
    cases hw : s.wakeEnabled with
    | false => simp [hw] at ht
    | true =>
      simp only [transition_wake, hw, cond_true] at ht
      cases ht
      exact h.of_eq rfl rfl
  | mem a v =>
    cases ht
    exact ⟨Memory.wf_write h.memory a v, h.lowNibble⟩
  | dbg w =>
    cases ht
    exact (s.accessorWrite_evolves w).inv h
  | reset =>
    cases ht
    exact State.resetCoreWith_inv Config.params h.memory

/-! ## The trace of the fetch -/

/-- `n` fetches record `n` reads, at `PC`, `PC + 1`, and so on (R27, R54). -/
theorem State.fetched_cycles (s : State) (n : Nat) :
    (s.fetched n).cycles =
      ((List.range n).map fun k =>
        MCycle.read (s.pc + BitVec.ofNat 16 k) (Memory.read s.mem (s.pc + BitVec.ofNat 16 k))).reverse ++ s.cycles := by
  induction n generalizing s with
  | zero => rfl
  | succ n ih =>
    have hk : ∀ k, s.pc + 1#16 + BitVec.ofNat 16 k = s.pc + BitVec.ofNat 16 (k + 1) := fun k => by
      rw [BitVec.add_assoc, Nat.add_comm k 1, BitVec.ofNat_add]
    rw [State.fetched_succ, ih]
    simp [List.range_succ_eq_map, hk]

/-! ## The rows whose `PC` is not that of the fetches alone -/

/-- The opcode of `STOP` by its fields (R71, R77). -/
theorem stop_of_fields (op : Byte) :
    (opX op).toNat = 0 → (opY op).toNat = 2 → (opZ op).toNat = 0 → op = Config.stopByte := by revert op; decide

/-- The byte `0xCB` by its fields (R71, R80); `x = 3` is what the other three rows of `x` leave. -/
theorem cbPrefix_of_fields (op : Byte) :
    (opX op).toNat ≠ 0 → (opX op).toNat ≠ 1 → (opX op).toNat ≠ 2 → (opY op).toNat = 1 → (opZ op).toNat = 3 →
      op = Config.cbPrefixByte := by revert op; decide

/-- Among the rows of `x = 0` (R77), by each branch of its fields. -/
theorem plainX0_stop_or_cbPrefix {op n : Byte} {nn : Word} :
    (plainX0 op n nn = .stop → (opY op).toNat = 2 ∧ (opZ op).toNat = 0) ∧ plainX0 op n nn ≠ .cbPrefix := by
  unfold plainX0 accOpOf
  grind

theorem plainX1_stop_or_cbPrefix (op : Byte) : plainX1 op ≠ .stop ∧ plainX1 op ≠ .cbPrefix := by
  unfold plainX1
  split <;> simp

/-- Among the rows of `x = 3` (R80), by each branch of its fields. -/
theorem plainX3_stop_or_cbPrefix {op n : Byte} {nn : Word} :
    plainX3 op n nn ≠ .stop ∧ (plainX3 op n nn = .cbPrefix → (opY op).toNat = 1 ∧ (opZ op).toNat = 3) := by
  unfold plainX3
  grind

/-- `STOP` is the row of its own opcode alone (R272). -/
theorem plainForm_eq_stop {op b1 b2 : Byte} (h : plainForm op b1 b2 = .stop) : op = Config.stopByte := by
  unfold plainForm at h
  split at h
  case h_1 hx =>
    obtain ⟨hy, hz⟩ := plainX0_stop_or_cbPrefix.1 h
    exact stop_of_fields op hx hy hz
  case h_2 => exact absurd h (plainX1_stop_or_cbPrefix op).1
  case h_3 => cases h
  case h_4 => exact absurd h plainX3_stop_or_cbPrefix.1

/-- The row of the prefix is that of the prefix byte alone (R73). -/
theorem plainForm_eq_cbPrefix {op b1 b2 : Byte} (h : plainForm op b1 b2 = .cbPrefix) : op = Config.cbPrefixByte := by
  unfold plainForm at h
  split at h
  case h_1 => exact absurd h plainX0_stop_or_cbPrefix.2
  case h_2 => exact absurd h (plainX1_stop_or_cbPrefix op).2
  case h_3 => cases h
  case h_4 h0 h1 h2 =>
    obtain ⟨hy, hz⟩ := plainX3_stop_or_cbPrefix.2 h
    exact cbPrefix_of_fields op h0 h1 h2 hy hz

/-- The form of the instruction at `PC`: of the CB space after the prefix, else of the plain space (R114). -/
theorem State.formOf_instrAt (s : State) :
    formOf s.instrAt = bif s.opcodeByte == Config.cbPrefixByte then .cb (cbFormOf (Memory.read s.mem (s.pc + 1)))
      else plainForm s.opcodeByte (Memory.read s.mem (s.pc + 1)) (Memory.read s.mem (s.pc + 2)) := by
  rw [State.instrAt, decode3, formOf_instrOf, decodeForm_eq]

/-- The instruction at `PC` is never the prefix on its own (log 12). -/
theorem State.formOf_instrAt_ne_cbPrefix (s : State) : formOf s.instrAt ≠ .cbPrefix := by
  rw [State.formOf_instrAt]
  cases hb : s.opcodeByte == Config.cbPrefixByte
  · exact fun h => absurd (plainForm_eq_cbPrefix h) (by simpa using hb)
  · nofun

/-- The instruction at `PC` is `STOP` exactly where its opcode stands there. -/
theorem State.formOf_instrAt_eq_stop_iff (s : State) : formOf s.instrAt = .stop ↔ s.opcodeByte = Config.stopByte := by
  rw [State.formOf_instrAt]
  constructor
  · intro h
    cases hb : s.opcodeByte == Config.cbPrefixByte
    · exact plainForm_eq_stop (by simpa [hb] using h)
    · simp [hb] at h
  · intro h
    rw [h]
    rfl

/-- Every byte of an instruction is fetched, but of `STOP` (R351). -/
theorem fetchCount_eq_lengthOf {b : Byte} (h : b ≠ Config.stopByte) : fetchCount b = lengthOf b := by
  simp [fetchCount, beq_false_of_ne h]

/-! ## Who writes `PC`, the latches and `F` -/

section
variable {f : Form} (s : State)

/-- `PC` is written by the control transfers, by `STOP`, which steps over its second byte, and by the prefix on its own. -/
theorem formChanges_pc (hc : transfersControl f = false) (hs : f ≠ .stop) (hp : f ≠ .cbPrefix) :
    (formChanges f s).pc = false := by
  cases f with
  | stop => exact absurd rfl hs
  | cbPrefix => exact absurd rfl hp
  | cb g => cases g <;> rfl
  | jp _ | jpCond _ _ | jpHL | jr _ | jrCond _ _ | call _ | callCond _ _ | ret | retCond _ | reti | rst _ => cases hc
  | _ => rfl

theorem cbChanges_ime (g : CbForm) (a : Word) : (cbChanges g a).ime = false := by cases g <;> rfl

theorem cbChanges_halted (g : CbForm) (a : Word) : (cbChanges g a).halted = false := by cases g <;> rfl

theorem cbChanges_fault (g : CbForm) (a : Word) : (cbChanges g a).fault = false := by cases g <;> rfl

/-- `IME` is written by `DI`, `EI` and `RETI` (R29). -/
theorem formChanges_ime (hd : f ≠ .di) (he : f ≠ .ei) (hr : f ≠ .reti) : (formChanges f s).ime = false := by
  cases f with
  | di => exact absurd rfl hd
  | ei => exact absurd rfl he
  | reti => exact absurd rfl hr
  | cbPrefix | cb _ => exact cbChanges_ime _ _
  | _ => rfl

/-- `halted` is written by `HALT` and `STOP` (R30). -/
theorem formChanges_halted (hh : f ≠ .halt) (hs : f ≠ .stop) : (formChanges f s).halted = false := by
  cases f with
  | halt => exact absurd rfl hh
  | stop => exact absurd rfl hs
  | cbPrefix | cb _ => exact cbChanges_halted _ _
  | _ => rfl

/-- The fault latch is written by the invalid opcodes (R301). -/
theorem formChanges_fault (hk : ∀ k, f ≠ .invalid k) : (formChanges f s).fault = false := by
  cases f with
  | invalid k => exact absurd rfl (hk k)
  | cbPrefix | cb _ => exact cbChanges_fault _ _
  | _ => rfl

/-- `F` is written by the forms of the first rows of R39. -/
theorem formChanges_flags (hf : writesFlags f = false) : (formChanges f s).flags = false := by
  cases f with
  | pop q =>
    cases q with
    | AF => cases hf
    | _ => rfl
  | cb g =>
    cases g with
    | rot _ _ | bit _ _ => cases hf
    | res _ _ | set _ _ => rfl
  | alu _ _ | incReg _ | incAtHL | decReg _ | decAtHL | daa | cpl | scf | ccf | addHL _ | addSPe _ | ldHLSPe _ | rlca
  | rrca | rla | rra | cbPrefix => cases hf
  | _ => rfl

end

/-! ## The accessors (R37) -/

/-- What each of the eight views reads after a write of each (R22, R24). -/
theorem State.write8_access8 (s : State) (r x : Name8) (v : Byte) :
    (s.write8 r v).access8 x = if x = r then (if r = .F then v &&& 0xF0 else v) else s.access8 x := by
  cases r <;> cases x <;> simp [State.write8, State.access8]

/-- What each of the six registers reads after a write of each (R20, R24). -/
theorem State.write16_access16 (s : State) (r x : Name16) (w : Word) :
    (s.write16 r w).access16 x = if x = r then (if r = .AF then w &&& 0xFFF0 else w) else s.access16 x := by
  cases r with
  | AF =>
    cases x with
    | AF => exact s.setAF_readAF w
    | _ => rfl
  | _ => cases x <;> rfl

/-- What each flag reads after a write of each (R23, R37). -/
theorem State.setFlags_accessFlag (s : State) (f x : FlagName) (b : Bool) :
    (s.setFlags (s.flags.put f b)).accessFlag x = if x = f then b else s.accessFlag x := by
  cases f <;> cases x <;> simp [State.accessFlag, Flags.put]

/-- Bits 3:0 of `F` read zero (R24). -/
theorem State.f_lowNibble (s : State) : s.f &&& 0x0F = 0 := by
  rw [State.f, BitVec.and_assoc]
  exact BitVec.and_zero

end Sys2Proof.Machine

namespace Sys2Proof.Proofs

open Sys2Proof.Machine Sys2Proof.Safety

/-- Settles O4: CORE's turn and every transition of R325 come down to a few kinds of write, each of which keeps memory
canonical and `F` masked. -/
theorem everyStepKeepsTheInvariant : Obligations.EveryStepKeepsTheInvariant := by
  intro s t h ht
  cases he : s.env with
  | nil => exact advance_inv h (step_idle_schedule he ▸ ht)
  | cons e rest =>
    have h' : Inv { s with env := rest } := h.of_eq rfl rfl
    exact transition_inv h' (step_scheduled he ▸ ht)

/-- Settles O11, by induction on the number of fetches. -/
theorem fetchReadsAscendingBytes : Obligations.FetchReadsAscendingBytes := fun n s =>
  ⟨s.fetched_pc n, (s.fetched_evolves n).keptBut, s.fetched_mem n, s.fetched_cycles n⟩

/-- Settles O12: the fetches pass the bytes, and the work leaves `PC` alone, but for `STOP`, which is fetched short by
the one byte it steps over. -/
theorem sequentialInstructionsPassTheirBytes : Obligations.SequentialInstructionsPassTheirBytes := by
  rintro s ⟨hf, hh, he⟩ hc
  refine ⟨_, (step_idle_schedule he).trans ((advance_running hf hh).trans (exec_eq _ _)), ?_⟩
  by_cases hs : formOf s.instrAt = .stop
  · have hb : Memory.read s.mem s.pc = Config.stopByte := s.formOf_instrAt_eq_stop_iff.1 hs
    rw [hs, State.opcodeByte, hb]
    exact word_add_one_one s.pc
  · have hb : s.opcodeByte ≠ Config.stopByte := mt s.formOf_instrAt_eq_stop_iff.2 hs
    have hk := (formWork_evolves (formOf s.instrAt) (s.fetched (fetchCount s.opcodeByte))).keptBut
    rw [hk.pc (formChanges_pc _ hc hs s.formOf_instrAt_ne_cbPrefix), State.fetched_pc, fetchCount_eq_lengthOf hb]
    rfl

/-- Settles O15: `formChanges` names each latch for its writers alone. -/
theorem latchesHaveOnlyTheirWriters : Obligations.LatchesHaveOnlyTheirWriters := by
  intro i s
  have hk := (formWork_evolves (formOf i) s).keptBut
  have hne : ∀ f, i ≠ instrOf f → formOf i ≠ f := fun f h e => h (e ▸ (instrOf_formOf i).symm)
  exact ⟨_, exec_eq i s, fun hd he hr => hk.ime (formChanges_ime s (hne _ hd) (hne _ he) (hne _ hr)),
    fun hh hs => hk.halted (formChanges_halted s (hne _ hh) (hne _ hs)),
    fun hi => hk.fault (formChanges_fault s hi), hk.schedule⟩

/-- Settles O16: `formChanges` names the flags for the forms of the other rows alone. -/
theorem otherInstructionsKeepTheFlags : Obligations.OtherInstructionsKeepTheFlags := fun i s hf =>
  ⟨_, exec_eq i s, (formWork_evolves (formOf i) s).keptBut.flags (formChanges_flags s hf)⟩

/-- Settles O57: the frame of each accessor, what each view reads after each write, and the views by their parts. -/
theorem accessorsReplaceWhatTheyName : Obligations.AccessorsReplaceWhatTheyName := by
  intro s
  exact ⟨fun w rest he => step_scheduled he,
    fun w => ⟨(s.accessorWrite_evolves w).keptBut, s.accessorWrite_cycles w⟩,
    s.write8_access8, s.write16_access16, s.setFlags_accessFlag, fun b => ⟨rfl, rfl⟩,
    s.readAF_eq, s.bc_eq, s.de_eq, s.hl_eq, rfl, rfl, rfl, rfl, s.f_lowNibble⟩

/-- Settles O1: the numbers are the defaults of the parameters (decision D2). -/
theorem resetLeavesTheHandOverState : Obligations.ResetLeavesTheHandOverState := by
  unfold Obligations.ResetLeavesTheHandOverState
  decide

/-- Settles O3: a reset empties memory and masks `AF`, whatever the parameters. -/
theorem resetMeetsTheInvariant : Obligations.ResetMeetsTheInvariant := State.resetWith_inv Config.params

end Sys2Proof.Proofs
end

