-- ==== Sys2Proof/Proofs/Memory.lean ====
section
/-! PROOFS. Memory and who reaches it (`20_memory.md`): CORE's M-cycles replay to its memory (O14), and what may come
between two M-cycles of an instruction (O59). -/

namespace Sys2Proof.Safety

open Sys2Proof.Machine

/-! ## The trace replays to memory (R57, R60) -/

/-- A trace replays in two parts, the second from the memory that the first makes. -/
theorem replay_append (m : Memory) (ms ns : List MCycle) :
    replay m (ms ++ ns) = (replay m ms).bind fun n => replay n ns := by
  induction ms generalizing m with
  | nil => rfl
  | cons x ms ih =>
    cases x with
    | read a v =>
      by_cases hv : Memory.read m a = v
      · simp [replay, hv, ih]
      · simp [replay, hv]
    | write a v => exact ih _
    | internal => exact ih m

/-- The M-cycles from `s` to `t`, in the order of time, replay on the memory of `s` to that of `t`. -/
def ReplaysTo (s t : State) : Prop := ∃ ms, t.cycles = ms.reverse ++ s.cycles ∧ replay s.mem ms = some t.mem

/-- A change that records no M-cycle and leaves memory alone. -/
theorem ReplaysTo.of_eq {s t : State} (hc : t.cycles = s.cycles) (hm : t.mem = s.mem) : ReplaysTo s t :=
  ⟨[], hc, hm ▸ rfl⟩

/-- A change that records one M-cycle. -/
theorem ReplaysTo.single {s t : State} {x : MCycle} (hc : t.cycles = x :: s.cycles) (hm : replay s.mem [x] = some t.mem) :
    ReplaysTo s t := ⟨[x], hc, hm⟩

theorem ReplaysTo.trans {s t u : State} (h : ReplaysTo s t) (k : ReplaysTo t u) : ReplaysTo s u := by
  obtain ⟨ms, hc, hm⟩ := h
  obtain ⟨ns, kc, km⟩ := k
  refine ⟨ms ++ ns, ?_, ?_⟩
  · rw [kc, hc, List.reverse_append, List.append_assoc]
  · rw [replay_append, hm, Option.bind_some, km]

end Sys2Proof.Safety

namespace Sys2Proof.Machine

open Sys2Proof.Safety

/-- A read records the byte that memory holds. -/
theorem State.afterRead_replays (s : State) (a : Word) : ReplaysTo s (s.afterRead a) :=
  .single (s.afterRead_cycles a) (if_pos rfl)

/-- A write records the byte that it stores. -/
theorem State.afterWrite_replays (s : State) (a : Word) (v : Byte) : ReplaysTo s (s.afterWrite a v) :=
  .single (s.afterWrite_cycles a v) rfl

theorem State.afterInternal_replays (s : State) : ReplaysTo s s.afterInternal := .single s.afterInternal_cycles rfl

/-- Memory changes in an evolution by the recorded writes alone. -/
theorem Evolves.replays {c : Changes} {s t : State} (h : Evolves c s t) : ReplaysTo s t := by
  induction h with
  | refl => exact .of_eq rfl rfl
  | afterRead _ a ih => exact ih.trans (State.afterRead_replays _ a)
  | afterWrite _ _ v ih => exact ih.trans (State.afterWrite_replays _ _ v)
  | afterInternal _ ih => exact ih.trans (State.afterInternal_replays _)
  | setR8 _ _ v ih => exact ih.trans (.of_eq (State.setR8_cycles _ _ v) (State.setR8_mem _ _ v))
  | setF _ _ _ ih | setSP _ _ _ ih | setPC _ _ _ ih | setIME _ _ _ ih | setHalted _ _ _ ih | raise _ _ _ ih =>
    exact ih.trans (.of_eq rfl rfl)

/-- The M-cycles of CORE's turn replay to the memory after it: nothing after a fault, one internal M-cycle while halted,
else the fetches and then the work of the instruction. -/
theorem advance_replays (s : State) : ∃ t, advance s = .next t ∧ ReplaysTo s t := by
  cases hf : s.faulted
  · cases hh : s.halted
    · have hw := (formWork_evolves (formOf s.instrAt) (s.fetched (fetchCount s.opcodeByte))).replays
      exact ⟨_, (advance_running hf hh).trans (exec_eq _ _), (s.fetched_evolves _).replays.trans hw⟩
    · exact ⟨_, advance_halted hf hh, s.afterInternal_replays⟩
  · exact ⟨s, advance_faulted hf, .of_eq rfl rfl⟩

/-! ## An instruction in flight (R65, R111, R112) -/

/-- Another agent's write changes the byte at its address alone (R65). -/
theorem State.agentWrite_keptBut (s : State) (a : Word) (v : Byte) :
    KeptBut { stores := [a] } s (s.agentWrite a v) := by
  constructor
  case memory => exact fun b hb => Memory.read_write_other s.mem v (List.ne_of_not_mem_cons hb)
  all_goals simp

/-- A change of the state of an instruction in flight is to the state in which its work stands. -/
@[simp] theorem Work.onState_state (f : State → State) (w : Work) : (w.onState f).state = f w.state := by
  cases w <;> rfl

/-- After retirement no cycle number is the next one (R112, R302). -/
@[simp] theorem cycleStep_done (cycle n : Nat) (s : State) : cycleStep cycle n (.done s) = .fault .protocolViolation := rfl

/-- A cycle number other than the next one is the protocol violation (R112, R302). -/
theorem cycleStep_of_ne {cycle n : Nat} (h : cycle ≠ n) (w : Work) : cycleStep cycle n w = .fault .protocolViolation := by
  have hb : (cycle == n) = false := beq_false_of_ne h
  cases w with
  | done s => rfl
  | read s a k | write s a v k | internal s k => simp only [cycleStep, hb, cond_false]

end Sys2Proof.Machine

namespace Sys2Proof.Proofs

open Sys2Proof.Machine

/-- Settles O14: every change that CORE's turn is made of leaves memory alone or is the write it records. -/
theorem traceReplaysToMemory : Obligations.TraceReplaysToMemory := by
  intro s
  obtain ⟨t, ht, ms, hc, hm⟩ := advance_replays s
  exact ⟨t, ms, ht, hc, hm⟩

/-- Settles O59: the refusals and the two transitions allowed in flight are the driver's own cases, and the cycle number is
compared before any M-cycle is performed. -/
theorem inFlightOnlyTheNextCycleAnAgentOrAReset : Obligations.InFlightOnlyTheNextCycleAnAgentOrAReset := by
  intro cycle n w a v b acc
  refine ⟨rfl, rfl, rfl, ⟨fun s => s.agentWrite a b, rfl, w.onState_state _, fun s => ?_⟩,
    ⟨w.state.resetCore, rfl, rfl, rfl, rfl, rfl, rfl, rfl, rfl, rfl, rfl, rfl, rfl, rfl⟩, ?_⟩
  · exact ⟨Memory.read_write_same s.mem a b, s.agentWrite_cycles a b, s.agentWrite_keptBut a b⟩
  · rintro (h | ⟨s, rfl⟩)
    · exact cycleStep_of_ne h w
    · exact cycleStep_done cycle n s

end Sys2Proof.Proofs
end

