-- ==== Sys2Proof/Proofs/Encoding.lean ====
section
/-! PROOFS. The decoder and the encoder (`30_encoding.md`). The decoder undoes the encoder form by form (O5); the encoder
undoes the decoder by the field views of R77 to R81, since a byte is its fields (O6); the rest follows (O7, O8). -/

namespace Sys2Proof

/-! ## The decoder on a list of bytes -/

/-- The decoder answers exactly when the bytes last for the length, and only its first three bytes decide. -/
theorem decode_eq_ok_iff {bs rest : List Byte} {i : Instr} :
    decode bs = .ok (i, rest) ↔ lengthOf (bs.getD 0 0) ≤ bs.length
      ∧ decode3 (bs.getD 0 0) (bs.getD 1 0) (bs.getD 2 0) = i ∧ bs.drop (lengthOf (bs.getD 0 0)) = rest := by
  cases bs with
  | nil => simp [decode, show lengthOf 0#8 = 1 by decide]
  | cons b bs =>
    obtain ⟨n, hn⟩ := Nat.exists_eq_add_of_le' (lengthOf_pos b).1
    by_cases h : bs.length < n
    · simp [decode, hn, h]
    · simp [decode, hn, h, Nat.le_of_not_lt h]

/-- An instruction with a 16-bit immediate, the low byte first (R72). -/
theorem decode_word {b : Byte} (F : Word → Form) (hl : lengthOf b = 3) (hF : ∀ h l, decodeForm b l h = F (mk16 h l))
    (nn : Word) (rest : List Byte) : decode (b :: lo nn :: hi nn :: rest) = .ok (instrOf (F nn), rest) := by
  rw [decode_long, decode3, hF, mk16_hi_lo, hl]
  rfl

/-! ## Decoding an encoded form -/

/-- Form by form, and row by row of its columns (R75); the CB space by its own inverse. -/
theorem decode_encodeForm {f : Form} (hf : f ≠ .cbPrefix) (rest : List Byte) :
    decode (encodeForm f ++ rest) = .ok (instrOf f, rest) := by
  cases f with
  | cbPrefix => exact absurd rfl hf
  | cb c => exact (decode_prefix (encodeCb c) rest).trans (by rw [cbFormOf_encodeCb])
  | invalid k => cases k <;> rfl
  | ldRegReg d r => cases d <;> cases r <;> rfl
  | ldRegImm d n => cases d <;> rfl
  | ldRegAtHL d => cases d <;> rfl
  | ldAtHLReg r | incReg r | decReg r => cases r <;> rfl
  | loadA m =>
    cases m with
    | atNn nn => exact decode_word (fun w => .loadA (.atNn w)) rfl (fun _ _ => rfl) nn rest
    | _ => rfl
  | storeA m =>
    cases m with
    | atNn nn => exact decode_word (fun w => .storeA (.atNn w)) rfl (fun _ _ => rfl) nn rest
    | _ => rfl
  | ldPairImm p nn => cases p <;> exact decode_word (.ldPairImm _) rfl (fun _ _ => rfl) nn rest
  | ldAtNnSP nn => exact decode_word .ldAtNnSP rfl (fun _ _ => rfl) nn rest
  | push q | pop q => cases q <;> rfl
  | alu op x =>
    cases op <;> cases x with
    | reg r => cases r <;> rfl
    | atHL | imm _ => rfl
  | addHL p | incPair p | decPair p => cases p <;> rfl
  | jp nn => exact decode_word .jp rfl (fun _ _ => rfl) nn rest
  | jpCond cc nn => cases cc <;> exact decode_word (.jpCond _) rfl (fun _ _ => rfl) nn rest
  | call nn => exact decode_word .call rfl (fun _ _ => rfl) nn rest
  | callCond cc nn => cases cc <;> exact decode_word (.callCond _) rfl (fun _ _ => rfl) nn rest
  | jrCond cc e => cases cc <;> rfl
  | retCond cc => cases cc <;> rfl
  | rst t => cases t <;> rfl
  | _ => rfl

/-! ## A byte is its fields (R71) -/

/-- The byte `xx_yyy_zzz` with the fields of `op` is `op`. -/
theorem opXYZ_eq {op : Byte} {x : BitVec 2} {y z : BitVec 3} (hx : (opX op).toNat = x.toNat)
    (hy : (opY op).toNat = y.toNat) (hz : (opZ op).toNat = z.toNat) : opXYZ x y z = op := by
  have h : ∀ b : Byte, opXYZ (opX b) (opY b) (opZ b) = b := by decide
  rw [← BitVec.eq_of_toNat_eq hx, ← BitVec.eq_of_toNat_eq hy, ← BitVec.eq_of_toNat_eq hz, h op]

/-- The byte `xx_ppq_zzz` with the fields of `op` is `op`. -/
theorem opXPQZ_eq {op : Byte} {x p : BitVec 2} {q : BitVec 1} {z : BitVec 3} (hx : (opX op).toNat = x.toNat)
    (hp : (opP op).toNat = p.toNat) (hq : opQ op = q.getLsbD 0) (hz : (opZ op).toNat = z.toNat) :
    opXPQZ x p q z = op := by
  have hbit : ∀ r : BitVec 1, BitVec.ofBool (r.getLsbD 0) = r := by decide
  have h : ∀ b : Byte, opXPQZ (opX b) (opP b) (BitVec.ofBool (opQ b)) (opZ b) = b := by decide
  rw [← BitVec.eq_of_toNat_eq hx, ← BitVec.eq_of_toNat_eq hp, ← hbit q, ← hq, ← BitVec.eq_of_toNat_eq hz, h op]

/-- Two bytes with the same fields are the same. -/
theorem eq_of_fields {b op : Byte} (hx : (opX op).toNat = (opX b).toNat) (hy : (opY op).toNat = (opY b).toNat)
    (hz : (opZ op).toNat = (opZ b).toNat) : b = op :=
  (opXYZ_eq rfl rfl rfl).symm.trans (opXYZ_eq hx hy hz)

/-- Two bytes with the same fields are the same, `y` read as `p` and `q`. -/
theorem eq_of_pqFields {b op : Byte} (hx : (opX op).toNat = (opX b).toNat) (hp : (opP op).toNat = (opP b).toNat)
    (hq : opQ op = opQ b) (hz : (opZ op).toNat = (opZ b).toNat) : b = op :=
  (opXPQZ_eq (q := BitVec.ofBool (opQ b)) rfl rfl (by simp) rfl).symm.trans (opXPQZ_eq hx hp (by simpa using hq) hz)

/-- The last row of a table of four. -/
theorem toNat_eq_three (p : BitVec 2) : p.toNat ≠ 0 → p.toNat ≠ 1 → p.toNat ≠ 2 → p.toNat = 3 := by
  revert p; decide

/-- The last row of a table of eight. -/
theorem toNat_eq_seven (y : BitVec 3) : y.toNat ≠ 0 → y.toNat ≠ 1 → y.toNat ≠ 2 → y.toNat ≠ 3 → y.toNat ≠ 4 →
    y.toNat ≠ 5 → y.toNat ≠ 6 → y.toNat = 7 := by
  have := y.isLt
  omega

/-! ## The index of an operand read from a field is that field (R75)

In `toNat`, as the decoder's tables read the fields. -/

theorem opnd8Index_opnd8Of (i : BitVec 3) : opnd8Index (opnd8Of i) = i := by revert i; decide

theorem toNat_eq_regIndex {i : BitVec 3} {r : Reg8} (h : opnd8Of i = .reg r) : i.toNat = (regIndex r).toNat := by
  rw [← opnd8Index_opnd8Of i, h, opnd8Index]

theorem toNat_eq_six {i : BitVec 3} (h : opnd8Of i = .atHL) : i.toNat = 6 := by
  rw [← opnd8Index_opnd8Of i, h]
  rfl

theorem toNat_eq_pairIndex (i : BitVec 2) : i.toNat = (pairIndex (pairOf i)).toNat := by revert i; decide

theorem toNat_eq_stackPairIndex (i : BitVec 2) : i.toNat = (stackPairIndex (stackPairOf i)).toNat := by
  revert i; decide

theorem toNat_eq_aluIndex (y : BitVec 3) : y.toNat = (aluIndex (aluOf y)).toNat := by revert y; decide

theorem toNat_eq_rstIndex (y : BitVec 3) : y.toNat = (rstIndex (rstOf y)).toNat := by revert y; decide

/-- The conditional jumps of `x = 0` stand at the `y` that the rows before them leave, 4 to 7 (R77). -/
theorem toNat_eq_condIndex_high {y : BitVec 3} : y.toNat ≠ 0 → y.toNat ≠ 1 → y.toNat ≠ 2 → y.toNat ≠ 3 →
    y.toNat = (1#1 ++ condIndex (condOf y)).toNat := by
  revert y; decide

/-- The conditional rows of `x = 3` stand at the `y` that the rows before them leave, 0 to 3 (R80). -/
theorem toNat_eq_condIndex_low {y : BitVec 3} : y.toNat ≠ 4 → y.toNat ≠ 5 → y.toNat ≠ 6 → y.toNat ≠ 7 →
    y.toNat = (0#1 ++ condIndex (condOf y)).toNat := by
  revert y; decide

theorem encodeForm_accOpOf (y : BitVec 3) : encodeForm (accOpOf y) = [opXYZ 0 y 7] := by revert y; decide

theorem encodeForm_loadA_accModeOf (p : BitVec 2) : encodeForm (.loadA (accModeOf p)) = [opXPQZ 0 p 1 2] := by
  revert p; decide

theorem encodeForm_storeA_accModeOf (p : BitVec 2) : encodeForm (.storeA (accModeOf p)) = [opXPQZ 0 p 0 2] := by
  revert p; decide

theorem encodeForm_alu_aluSrcOf (y z : BitVec 3) : encodeForm (.alu (aluOf y) (aluSrcOf z)) = [opXYZ 2 y z] := by
  revert y z; decide

/-! ## Encoding a decoded form gives the bytes at the head back, whatever follows them -/

section
variable {b op b1 b2 : Byte}

theorem bare_isPrefix (h : b = op) : [b] <+: [op, b1, b2] := ⟨[b1, b2], by rw [h]; rfl⟩

theorem withByte_isPrefix (h : b = op) : [b, b1] <+: [op, b1, b2] := ⟨[b2], by rw [h]; rfl⟩

theorem withWord_isPrefix (h : b = op) : [b, lo (mk16 b2 b1), hi (mk16 b2 b1)] <+: [op, b1, b2] := by
  rw [h, lo_mk16, hi_mk16]

/-- `x = 0` (R77); of `STOP` the second byte may differ (log 13). -/
theorem encodeForm_plainX0_isPrefix (hx : (opX op).toNat = 0) (hs : op ≠ Config.stopByte) :
    encodeForm (plainX0 op b1 (mk16 b2 b1)) <+: [op, b1, b2] := by
  unfold plainX0
  split
  case h_1 hz =>
    split
    case h_1 hy => exact bare_isPrefix (eq_of_fields hx hy hz)
    case h_2 hy => exact withWord_isPrefix (eq_of_fields hx hy hz)
    case h_3 hy => exact absurd (Machine.stop_of_fields op hx hy hz) hs
    case h_4 hy => exact withByte_isPrefix (eq_of_fields hx hy hz)
    case h_5 h0 h1 h2 h3 => exact withByte_isPrefix (opXYZ_eq hx (toNat_eq_condIndex_high h0 h1 h2 h3) hz)
  case h_2 hz =>
    cases hq : opQ op
    · exact withWord_isPrefix (opXPQZ_eq hx (toNat_eq_pairIndex _) hq hz)
    · exact bare_isPrefix (opXPQZ_eq hx (toNat_eq_pairIndex _) hq hz)
  case h_3 hz =>
    cases hq : opQ op
    · rw [cond_false, encodeForm_storeA_accModeOf]
      exact bare_isPrefix (opXPQZ_eq hx rfl hq hz)
    · rw [cond_true, encodeForm_loadA_accModeOf]
      exact bare_isPrefix (opXPQZ_eq hx rfl hq hz)
  case h_4 hz =>
    cases hq : opQ op <;> exact bare_isPrefix (opXPQZ_eq hx (toNat_eq_pairIndex _) hq hz)
  case h_5 hz | h_6 hz =>
    split
    case h_1 hy => exact bare_isPrefix (opXYZ_eq hx (toNat_eq_regIndex hy) hz)
    case h_2 hy => exact bare_isPrefix (eq_of_fields hx (toNat_eq_six hy) hz)
  case h_7 hz =>
    split
    case h_1 hy => exact withByte_isPrefix (opXYZ_eq hx (toNat_eq_regIndex hy) hz)
    case h_2 hy => exact withByte_isPrefix (eq_of_fields hx (toNat_eq_six hy) hz)
  case h_8 h0 h1 h2 h3 h4 h5 h6 =>
    rw [encodeForm_accOpOf]
    exact bare_isPrefix (opXYZ_eq hx rfl (toNat_eq_seven _ h0 h1 h2 h3 h4 h5 h6))

/-- `x = 1` (R78). -/
theorem encodeForm_plainX1_isPrefix (hx : (opX op).toNat = 1) : encodeForm (plainX1 op) <+: [op, b1, b2] := by
  unfold plainX1
  split
  case h_1 hy hz => exact bare_isPrefix (opXYZ_eq hx (toNat_eq_regIndex hy) (toNat_eq_regIndex hz))
  case h_2 hy hz => exact bare_isPrefix (opXYZ_eq hx (toNat_eq_regIndex hy) (toNat_eq_six hz))
  case h_3 hy hz => exact bare_isPrefix (opXYZ_eq hx (toNat_eq_six hy) (toNat_eq_regIndex hz))
  case h_4 hy hz => exact bare_isPrefix (eq_of_fields hx (toNat_eq_six hy) (toNat_eq_six hz))

/-- `x = 2` (R79). -/
theorem encodeForm_plainX2_isPrefix (hx : (opX op).toNat = 2) : encodeForm (plainX2 op) <+: [op, b1, b2] := by
  rw [plainX2, encodeForm_alu_aluSrcOf]
  exact bare_isPrefix (opXYZ_eq hx rfl rfl)

/-- `x = 3` (R80), the invalid opcodes and the prefix among its rows. -/
theorem encodeForm_plainX3_isPrefix (hx : (opX op).toNat = 3) :
    encodeForm (plainX3 op b1 (mk16 b2 b1)) <+: [op, b1, b2] := by
  unfold plainX3
  split
  case h_1 hz =>
    split
    case h_1 hy | h_2 hy | h_3 hy | h_4 hy => exact withByte_isPrefix (eq_of_fields hx hy hz)
    case h_5 h4 h5 h6 h7 => exact bare_isPrefix (opXYZ_eq hx (toNat_eq_condIndex_low h4 h5 h6 h7) hz)
  case h_2 hz =>
    cases hq : opQ op
    · exact bare_isPrefix (opXPQZ_eq hx (toNat_eq_stackPairIndex _) hq hz)
    · rw [cond_true]
      split
      case h_1 hp | h_2 hp | h_3 hp => exact bare_isPrefix (eq_of_pqFields hx hp hq hz)
      case h_4 h0 h1 h2 => exact bare_isPrefix (eq_of_pqFields hx (toNat_eq_three _ h0 h1 h2) hq hz)
  case h_3 hz =>
    split
    case h_1 hy | h_3 hy => exact bare_isPrefix (eq_of_fields hx hy hz)
    case h_2 hy | h_4 hy => exact withWord_isPrefix (eq_of_fields hx hy hz)
    case h_5 h4 h5 h6 h7 => exact withWord_isPrefix (opXYZ_eq hx (toNat_eq_condIndex_low h4 h5 h6 h7) hz)
  case h_4 hz =>
    split
    case h_1 hy => exact withWord_isPrefix (eq_of_fields hx hy hz)
    case h_2 hy | h_3 hy | h_4 hy | h_5 hy | h_6 hy | h_7 hy => exact bare_isPrefix (eq_of_fields hx hy hz)
    case h_8 h0 h1 h2 h3 h4 h5 h6 =>
      exact bare_isPrefix (eq_of_fields hx (toNat_eq_seven _ h0 h1 h2 h3 h4 h5 h6) hz)
  case h_5 hz =>
    split
    case h_1 hy | h_2 hy | h_3 hy | h_4 hy => exact bare_isPrefix (eq_of_fields hx hy hz)
    case h_5 h4 h5 h6 h7 => exact withWord_isPrefix (opXYZ_eq hx (toNat_eq_condIndex_low h4 h5 h6 h7) hz)
  case h_6 hz =>
    cases hq : opQ op
    · exact bare_isPrefix (opXPQZ_eq hx (toNat_eq_stackPairIndex _) hq hz)
    · rw [cond_true]
      split
      case h_1 hp => exact withWord_isPrefix (eq_of_pqFields hx hp hq hz)
      case h_2 hp | h_3 hp => exact bare_isPrefix (eq_of_pqFields hx hp hq hz)
      case h_4 h0 h1 h2 => exact bare_isPrefix (eq_of_pqFields hx (toNat_eq_three _ h0 h1 h2) hq hz)
  case h_7 hz => exact withByte_isPrefix (opXYZ_eq hx (toNat_eq_aluIndex _) hz)
  case h_8 h0 h1 h2 h3 h4 h5 h6 =>
    exact bare_isPrefix (opXYZ_eq hx (toNat_eq_rstIndex _) (toNat_eq_seven _ h0 h1 h2 h3 h4 h5 h6))

/-- The CB space by its own inverse, the plain space block by block. -/
theorem encodeForm_decodeForm_isPrefix (hs : op ≠ Config.stopByte) :
    encodeForm (decodeForm op b1 b2) <+: [op, b1, b2] := by
  rw [decodeForm_eq]
  cases hb : op == Config.cbPrefixByte
  · rw [cond_false, plainForm]
    split
    case h_1 hx => exact encodeForm_plainX0_isPrefix hx hs
    case h_2 hx => exact encodeForm_plainX1_isPrefix hx
    case h_3 hx => exact encodeForm_plainX2_isPrefix hx
    case h_4 h0 h1 h2 => exact encodeForm_plainX3_isPrefix (toNat_eq_three _ h0 h1 h2)
  · rw [cond_true, encodeForm, encodeCb_cbFormOf]
    exact withByte_isPrefix (eq_of_beq hb).symm

/-- The decoder never answers the prefix on its own (log 12). -/
theorem decodeForm_ne_cbPrefix : decodeForm op b1 b2 ≠ .cbPrefix := by
  rw [decodeForm_eq]
  cases hb : op == Config.cbPrefixByte
  · exact fun h => absurd (Machine.plainForm_eq_cbPrefix h) (by simpa using hb)
  · nofun

/-- The length read from the first byte is the length of what is written (R74). -/
theorem lengthOf_eq_of_isPrefix {f : Form} (hf : f ≠ .cbPrefix) (h : encodeForm f <+: [op, b1, b2]) :
    lengthOf op = (encodeForm f).length := by
  obtain ⟨rest, he⟩ := h
  have hd := decode_encodeForm hf rest
  rw [he, decode_eq_ok_iff] at hd
  obtain ⟨hn, -, rfl⟩ := hd
  have hlen := congrArg List.length he
  simp only [List.length_append, List.length_drop, List.length_cons, List.length_nil, List.getD_cons_zero] at hn hlen
  omega

end

/-- The three bytes that decide are those of the list, as far as it goes. -/
theorem firstThree_isPrefix (bs : List Byte) : [bs.getD 0 0, bs.getD 1 0, bs.getD 2 0] <+: bs ++ [0, 0, 0] := by
  match bs with
  | [] | [_] | [_, _] | _ :: _ :: _ :: _ => simp

/-- A form whose bytes stand at the head of a list that lasts for them, followed by what the decoder leaves of it. -/
theorem encodeForm_append_drop {f : Form} {bs : List Byte} (hf : f ≠ .cbPrefix)
    (h : encodeForm f <+: [bs.getD 0 0, bs.getD 1 0, bs.getD 2 0]) (hn : lengthOf (bs.getD 0 0) ≤ bs.length) :
    encodeForm f ++ bs.drop (lengthOf (bs.getD 0 0)) = bs := by
  have hl := lengthOf_eq_of_isPrefix hf h
  have hbs : encodeForm f <+: bs :=
    List.prefix_of_prefix_length_le (h.trans (firstThree_isPrefix bs)) (List.prefix_append bs _) (hl ▸ hn)
  rw [hl]
  exact List.prefix_iff_eq_append.1 hbs

/-! ## From forms to instructions -/

/-- Well formed is every instruction but the row of the prefix (R276). -/
theorem Instr.wf_iff (i : Instr) : i.wf = true ↔ formOf i ≠ .cbPrefix := by
  have h : formOf i = .cbPrefix ↔ i = .cbPrefix :=
    ⟨fun h => by rw [← instrOf_formOf i, h]; rfl, fun h => by rw [h]; rfl⟩
  rw [ne_eq, h]
  unfold Instr.wf Instr.isInstruction
  split <;> simp_all

theorem instrOf_injective : Function.Injective instrOf := Function.LeftInverse.injective formOf_instrOf

/-! ## The invalid opcodes (R82) -/

/-- The row of an invalid opcode is that of its own byte, and of no other: its encoding is that one byte. -/
theorem decodeForm_eq_invalid_iff {op b1 b2 : Byte} {k : InvalidOp} :
    decodeForm op b1 b2 = .invalid k ↔ invalidByte k = op := by
  constructor
  · intro h
    have hs : op ≠ Config.stopByte := by rintro rfl; cases h
    have hp : encodeForm (decodeForm op b1 b2) <+: [op, b1, b2] := encodeForm_decodeForm_isPrefix hs
    rw [h, encodeForm, List.cons_prefix_cons] at hp
    exact hp.1
  · rintro rfl
    cases k <;> rfl

theorem exists_invalidByte_iff {b : Byte} :
    (∃ k, invalidByte k = b) ↔ b ∈ [0xD3, 0xDB, 0xDD, 0xE3, 0xE4, 0xEB, 0xEC, 0xED, 0xF4, 0xFC, 0xFD] := by
  constructor
  · rintro ⟨k, rfl⟩
    cases k <;> decide
  · intro h
    have hrow : (invalidRow b).isSome := by revert b; decide
    obtain ⟨k, hk⟩ := Option.isSome_iff_exists.1 hrow
    exact ⟨k, Machine.invalidByte_of_row hk⟩

theorem lengthOf_invalidByte (k : InvalidOp) : lengthOf (invalidByte k) = 1 := by cases k <;> rfl

end Sys2Proof

namespace Sys2Proof.Proofs

/-- Settles O5: the decoder answers the form that was encoded, and the instruction is the row of its form. -/
theorem decodeOfEncodeIsTheInstruction : Obligations.DecodeOfEncodeIsTheInstruction := by
  intro i rest hw
  rw [encode, decode_encodeForm (i.wf_iff.1 hw), instrOf_formOf]

/-- Settles O6: the bytes of the form decoded stand at the head of the list, and are as many as the decoder takes. -/
theorem encodeOfDecodeIsTheBytes : Obligations.EncodeOfDecodeIsTheBytes := by
  intro bs rest i h
  obtain ⟨hn, rfl, rfl⟩ := decode_eq_ok_iff.1 h
  rw [Instr.wf_iff, encode, decode3, formOf_instrOf]
  refine ⟨decodeForm_ne_cbPrefix, fun hi => ?_⟩
  have hs : bs.getD 0 0 ≠ Config.stopByte := fun hb => hi (by rw [hb]; rfl)
  exact encodeForm_append_drop decodeForm_ne_cbPrefix (encodeForm_decodeForm_isPrefix hs) hn

/-- Settles O7: an invalid opcode is decoded from its own byte alone, and the eleven bytes are those that have one. -/
theorem invalidOpcodesAreTheEleven : Obligations.InvalidOpcodesAreTheEleven := by
  intro b0 b1 b2
  simp only [decode3, instrOf_injective.eq_iff, decodeForm_eq_invalid_iff]
  refine ⟨exists_invalidByte_iff, ?_⟩
  rintro k rfl
  exact ⟨rfl, lengthOf_invalidByte k⟩

/-- Settles O8: the CB space holds all 256 bytes, and its encoder writes the byte back. -/
theorem prefixSelectsTheCbSpace : Obligations.PrefixSelectsTheCbSpace := fun cbop rest =>
  ⟨cbFormOf cbop, decode_prefix cbop rest, encodeCb_cbFormOf cbop⟩

end Sys2Proof.Proofs
end

