-- ==== Sys2Proof/Proofs/Helpers.lean ====
section
/-! PROOFS. The arithmetic helpers (R100 to R103) in integers (O28), and decimal adjustment (R204) after an addition or a
subtraction of packed BCD bytes (O34). -/

namespace Sys2Proof

/-- A test with the mask `0x10` asks for bit 4. -/
theorem and_sixteen_ne_zero (b : Byte) : (b &&& 0x10 != 0) = b.getLsbD 4 := by revert b; decide

namespace Machine

/-! ## The helpers in integers (R100 to R103) -/

/-- The sum with a carry in, as a sum of bytes. -/
theorem ofNat_add_carry (a b : Byte) (cin : Bool) :
    BitVec.ofNat 8 (a.toNat + b.toNat + cin.toNat) = a + b + BitVec.setWidth 8 (BitVec.ofBool cin) := by
  apply BitVec.eq_of_toNat_eq
  simp

/-- Bit 4 of the sum is that of the operands and the carry out of the low nibbles: so their `xor` is this carry. -/
theorem halfCarry_eq (a b : Byte) (cin : Bool) :
    ((a ^^^ b ^^^ BitVec.ofNat 8 (a.toNat + b.toNat + cin.toNat)) &&& 0x10 != 0) =
      decide (a.toNat % 16 + b.toNat % 16 + cin.toNat > 15) := by
  have hs : ∀ x y c : Bool, (x ^^ y ^^ (x ^^ (y ^^ c))) = c := by decide
  rw [and_sixteen_ne_zero, ofNat_add_carry, BitVec.getLsbD_xor, BitVec.getLsbD_xor,
    BitVec.getLsbD_add_add_bool (by decide), hs, BitVec.carry]
  rfl

theorem adc8_eq (a b : Byte) (cin : Bool) :
    adc8 a b cin =
      { r := BitVec.ofNat 8 (a.toNat + b.toNat + cin.toNat),
        h := decide (a.toNat % 16 + b.toNat % 16 + cin.toNat > 15),
        c := decide (a.toNat + b.toNat + cin.toNat > 255) } := by
  rw [adc8, halfCarry_eq]

/-- `add8` is `adc8` without a carry in (R100, R101). -/
theorem add8_eq_adc8 (a b : Byte) : add8 a b = adc8 a b false := by
  have hr : BitVec.ofNat 8 (a.toNat + b.toNat) = a + b := by simp [BitVec.ofNat_add]
  simp only [add8, adc8, Bool.toNat_false, Nat.add_zero, hr]

theorem sbc8_eq (a b : Byte) (cin : Bool) :
    sbc8 a b cin =
      { r := BitVec.ofInt 8 (a.toNat - b.toNat - cin.toNat),
        h := decide (a.toNat % 16 < b.toNat % 16 + cin.toNat), c := decide (a.toNat < b.toNat + cin.toNat) } := by
  have hr : BitVec.ofInt 8 (a.toNat - b.toNat - cin.toNat) = a - b - BitVec.ofNat 8 cin.toNat := by
    simp [Int.sub_eq_add_neg, BitVec.ofInt_add, BitVec.ofInt_neg, BitVec.sub_eq_add_neg]
  simp only [sbc8, hr, BitVec.ofNat_eq_ofNat, nibble_toNat]

/-- `sub8` is `sbc8` without a borrow in (R102, R103). -/
theorem sub8_eq_sbc8 (a b : Byte) : sub8 a b = sbc8 a b false := by
  simp [sub8, sbc8]

/-! ## Packed BCD (R204) -/

/-- The packed BCD byte of a number below 100: its tens in the high nibble, its units in the low one. -/
def bcd (k : Nat) : Byte := BitVec.ofNat 8 (k / 10 * 16 + k % 10)

theorem toNat_bcd {k : Nat} (h : k < 100) : (bcd k).toNat = k / 10 * 16 + k % 10 := by
  rw [bcd, BitVec.toNat_ofNat]
  omega

/-- The low nibble of a packed BCD byte is the units. -/
theorem toNat_bcd_mod {k : Nat} (h : k < 100) : (bcd k).toNat % 16 = k % 10 := by
  rw [toNat_bcd h]
  omega

/-- The order of packed BCD bytes is that of their numbers. -/
theorem toNat_bcd_lt_iff {m n : Nat} (hm : m < 100) (hn : n < 100) : (bcd m).toNat < (bcd n).toNat ↔ m < n := by
  rw [toNat_bcd hm, toNat_bcd hn]
  omega

/-- The two digits of a number, taken modulo 100. -/
theorem toNat_bcd_mod_hundred {t u : Nat} (hu : u < 10) : (bcd ((10 * t + u) % 100)).toNat = t % 10 * 16 + u := by
  rw [toNat_bcd (Nat.mod_lt _ (by decide))]
  omega

/-- What `DAA` adds or subtracts: 6 for the low digit, 60 in hexadecimal for the high one. -/
theorem daaAdjustment_toNat (low high : Bool) :
    ((bif low then 0x06 else 0) ||| (bif high then 0x60 else 0) : Byte).toNat =
      (if low then 6 else 0) + (if high then 0x60 else 0) := by
  cases low <;> cases high <;> rfl

/-- `DAA` after an addition: the low digit is adjusted after a half-carry or above 9, the high one after a carry or
above 99. -/
theorem daaOut_add (a : Byte) (z h c : Bool) :
    let low := h || decide (a.toNat % 16 > 9)
    let high := c || decide (a.toNat > 0x99)
    (daaOut a ⟨z, false, h, c⟩).r.toNat = (a.toNat + ((if low then 6 else 0) + (if high then 0x60 else 0))) % 256
      ∧ (daaOut a ⟨z, false, h, c⟩).fl.c = high := by
  intro low high
  have hlow : (h || decide ((a &&& 0xF).toNat > 9)) = low := by rw [BitVec.ofNat_eq_ofNat, nibble_toNat]
  refine ⟨?_, rfl⟩
  simp only [daaOut, cond_false, hlow, BitVec.toNat_add, daaAdjustment_toNat]
  rfl

/-- `DAA` after a subtraction: a digit is adjusted where it borrowed. -/
theorem daaOut_sub (a : Byte) (z h c : Bool) :
    (daaOut a ⟨z, true, h, c⟩).r.toNat = (256 - ((if h then 6 else 0) + (if c then 0x60 else 0)) + a.toNat) % 256
      ∧ (daaOut a ⟨z, true, h, c⟩).fl.c = c := by
  simp only [daaOut, cond_true, BitVec.toNat_sub, daaAdjustment_toNat, and_self]

/-- The sum of two packed BCD bytes, by the sums of their tens and of their units. -/
theorem adc8_bcd {m n : Nat} (hm : m < 100) (hn : n < 100) (cin : Bool) :
    let tens := m / 10 + n / 10
    let units := m % 10 + n % 10 + cin.toNat
    adc8 (bcd m) (bcd n) cin =
      { r := BitVec.ofNat 8 (16 * tens + units), h := decide (units > 15), c := decide (16 * tens + units > 255) } := by
  intro tens units
  have hs : (bcd m).toNat + (bcd n).toNat + cin.toNat = 16 * tens + units := by
    rw [toNat_bcd hm, toNat_bcd hn]
    omega
  rw [adc8_eq, toNat_bcd_mod hm, toNat_bcd_mod hn, hs]

/-- `DAA` after a sum with these tens and units: the low digit is adjusted exactly where the units pass 9, the high one
exactly where the whole sum passes 99. -/
theorem daaOut_tens_units {tens units : Nat} (ht : tens ≤ 18) (hu : units ≤ 19) (z : Bool) :
    let o := daaOut (BitVec.ofNat 8 (16 * tens + units))
      ⟨z, false, decide (units > 15), decide (16 * tens + units > 255)⟩
    o.r = bcd ((10 * tens + units) % 100) ∧ o.fl.c = decide (10 * tens + units ≥ 100) := by
  have hlow : units > 15 ∨ (16 * tens + units) % 2 ^ 8 % 16 > 9 ↔ units > 9 := by omega
  have hhigh : 16 * tens + units > 255 ∨ (16 * tens + units) % 2 ^ 8 > 0x99 ↔ 10 * tens + units ≥ 100 := by omega
  obtain ⟨hr, hc⟩ := daaOut_add (BitVec.ofNat 8 (16 * tens + units)) z (decide (units > 15))
    (decide (16 * tens + units > 255))
  simp only [BitVec.toNat_ofNat, ← Bool.decide_or, hlow, hhigh, decide_eq_true_eq] at hr hc
  refine ⟨BitVec.eq_of_toNat_eq (hr.trans ?_), hc⟩
  by_cases hl : units > 9
  · have hd : 10 * tens + units = 10 * (tens + 1) + (units - 10) := by omega
    rw [hd, toNat_bcd_mod_hundred (by omega), if_pos hl]
    split <;> omega
  · rw [toNat_bcd_mod_hundred (by omega), if_neg hl]
    split <;> omega

/-- The sum of two packed BCD bytes, then `DAA` (R101, R204). -/
theorem daaOut_adc8_bcd {m n : Nat} (hm : m < 100) (hn : n < 100) (cin : Bool) :
    let o := (adc8 (bcd m) (bcd n) cin).out false
    (daaOut o.r o.fl).r = bcd ((m + n + cin.toNat) % 100)
      ∧ (daaOut o.r o.fl).fl.c = decide (m + n + cin.toNat ≥ 100) := by
  have hc : cin.toNat ≤ 1 := cin.toNat_le
  have hs : m + n + cin.toNat = 10 * (m / 10 + n / 10) + (m % 10 + n % 10 + cin.toNat) := by omega
  rw [adc8_bcd hm hn, hs]
  exact daaOut_tens_units (by omega) (by omega) _

/-- The difference of two packed BCD bytes, then `DAA` (R102, R204). -/
theorem daaOut_sub8_bcd {m n : Nat} (hm : m < 100) (hn : n < 100) :
    let o := (sub8 (bcd m) (bcd n)).out true
    (daaOut o.r o.fl).r = bcd ((m + 100 - n) % 100) ∧ (daaOut o.r o.fl).fl.c = decide (m < n) := by
  obtain ⟨hr, hc⟩ := daaOut_sub (bcd m - bcd n) (bcd m - bcd n == 0) (decide (m % 10 < n % 10)) (decide (m < n))
  have ho : (sub8 (bcd m) (bcd n)).out true =
      ⟨bcd m - bcd n, bcd m - bcd n == 0, true, decide (m % 10 < n % 10), decide (m < n)⟩ := by
    simp only [sub8, Sum8.out, BitVec.ofNat_eq_ofNat, nibble_toNat, toNat_bcd_mod hm, toNat_bcd_mod hn,
      toNat_bcd_lt_iff hm hn]
  rw [ho]
  refine ⟨BitVec.eq_of_toNat_eq (hr.trans ?_), hc⟩
  rw [toNat_bcd (Nat.mod_lt _ (by decide)), BitVec.toNat_sub, toNat_bcd hm, toNat_bcd hn]
  simp only [decide_eq_true_eq]
  split <;> split <;> omega

end Machine
end Sys2Proof

namespace Sys2Proof.Proofs

open Sys2Proof.Machine

/-- Settles O28: `add8` and `sub8` are `adc8` and `sbc8` without a carry in. -/
theorem helpersCarryAndBorrow : Obligations.HelpersCarryAndBorrow := by
  intro a b cin
  rw [add8_eq_adc8, sub8_eq_sbc8, adc8_eq, sbc8_eq, adc8_eq, sbc8_eq]
  simp

/-- Settles O34: each digit is adjusted exactly where its decimal sum or difference leaves 0 to 9. -/
theorem decimalAdjustMakesBcd : Obligations.DecimalAdjustMakesBcd := by
  intro m n cin hm hn
  obtain ⟨hsum, hsumC⟩ := daaOut_adc8_bcd hm hn cin
  obtain ⟨hdif, hdifC⟩ := daaOut_sub8_bcd hm hn
  exact ⟨hsum, hsumC, hdif, hdifC⟩

end Sys2Proof.Proofs
end

