-- ==== Sys2Proof/Proofs/Driver.lean ====
section
/-! PROOFS. CORE's turn and the driver (`40_helpers_and_driver.md`): what a step runs (O10), when it runs nothing (O53), and
the M-cycle driver against the whole instruction (O58). The work of an instruction is followed by `Work.LeadsTo`: what is
left of it after some of its M-cycles. -/

namespace Sys2Proof.Machine

open Sys2Proof.Safety

/-! ## The bytes that decide (R74, R114) -/

/-- Only the bytes that are fetched select the row: they are what the encoder writes for it, and from that the decoder
reads it back. Of `STOP` the first byte decides. -/
theorem decodeForm_congr {op b1 b2 c1 c2 : Byte}
    (h : [op, b1, b2].take (fetchCount op) = [op, c1, c2].take (fetchCount op)) :
    decodeForm op b1 b2 = decodeForm op c1 c2 := by
  by_cases hs : op = Config.stopByte
  · rw [hs]
    rfl
  · have hp : encodeForm (decodeForm op b1 b2) <+: [op, b1, b2] := encodeForm_decodeForm_isPrefix hs
    have hl := lengthOf_eq_of_isPrefix decodeForm_ne_cbPrefix hp
    have hc : encodeForm (decodeForm op b1 b2) <+: [op, c1, c2] := by
      rw [List.prefix_iff_eq_take.1 hp, ← hl, ← fetchCount_eq_lengthOf hs, h]
      exact List.take_prefix _ _
    obtain ⟨rest, he⟩ := hc
    have hd := decode_encodeForm (f := decodeForm op b1 b2) decodeForm_ne_cbPrefix rest
    rw [he, decode_eq_ok_iff] at hd
    obtain ⟨-, hi, -⟩ := hd
    exact (instrOf_injective hi).symm

/-- The same in the plain space. -/
theorem plainForm_congr {op b1 b2 c1 c2 : Byte} (hcb : (op == Config.cbPrefixByte) = false)
    (h : [op, b1, b2].take (fetchCount op) = [op, c1, c2].take (fetchCount op)) :
    plainForm op b1 b2 = plainForm op c1 c2 := by
  have hd := decodeForm_congr h
  rwa [decodeForm_eq, decodeForm_eq, hcb, cond_false, cond_false] at hd

/-- One, two or three bytes are fetched (R70, R351). -/
theorem fetchCount_cases (b : Byte) : fetchCount b = 1 ∨ fetchCount b = 2 ∨ fetchCount b = 3 := by
  obtain ⟨h1, h3⟩ := lengthOf_pos b
  cases hb : b == Config.stopByte
  · simp only [fetchCount, hb, cond_false]
    omega
  · exact .inl (by simp only [fetchCount, hb, cond_true])

/-! ## M-cycles of work -/

/-- The M-cycles of a piece of work, run to its end with no other agent in between. -/
def Work.cycleCount : Work → Nat
  | .done _ => 0
  | .read s a k => (k (Memory.read s.mem a) (s.afterRead a)).cycleCount + 1
  | .write s a v k => (k (s.afterWrite a v)).cycleCount + 1
  | .internal s k => (k s.afterInternal).cycleCount + 1

@[simp] theorem State.reading_cycleCount (s : State) (a : Word) (k : Byte → State → Work) :
    (s.reading a k).cycleCount = (k (Memory.read s.mem a) (s.afterRead a)).cycleCount + 1 := rfl

@[simp] theorem State.writing_cycleCount (s : State) (a : Word) (v : Byte) (k : State → Work) :
    (s.writing a v k).cycleCount = (k (s.afterWrite a v)).cycleCount + 1 := rfl

@[simp] theorem State.idling_cycleCount (s : State) (k : State → Work) :
    (s.idling k).cycleCount = (k s.afterInternal).cycleCount + 1 := rfl

@[simp] theorem State.popping_cycleCount (s : State) (k : Word → State → Work) :
    (s.popping k).cycleCount =
      (k (mk16 (Memory.read s.mem (s.sp + 1)) (Memory.read s.mem s.sp))
        ((((s.afterRead s.sp).setSP (s.sp + 1)).afterRead (s.sp + 1)).setSP (s.sp + 1 + 1))).cycleCount + 2 := rfl

/-- After `n` M-cycles of the work `w` the work `v` is left: it ends in the same state, after `n` M-cycles less. -/
structure Work.LeadsTo (w : Work) (n : Nat) (v : Work) : Prop where
  run : v.run = w.run
  cycleCount : v.cycleCount + n = w.cycleCount

theorem Work.LeadsTo.refl (w : Work) : w.LeadsTo 0 w := ⟨rfl, rfl⟩

/-- A piece of work with M-cycles to do, one of them performed. -/
theorem Work.perform_leadsTo {w : Work} (h : 0 < w.cycleCount) : w.LeadsTo 1 w.perform := by
  cases w with
  | done s => cases h
  | read s a k | write s a v k | internal s k => exact ⟨rfl, rfl⟩

theorem Work.LeadsTo.trans {w v u : Work} {m n : Nat} (h : w.LeadsTo m v) (k : v.LeadsTo n u) : w.LeadsTo (n + m) u :=
  ⟨k.run.trans h.run, by rw [← Nat.add_assoc, k.cycleCount, h.cycleCount]⟩

/-- A fetch is one M-cycle (R27). -/
theorem Work.LeadsTo.fetching {s : State} {k : Byte → State → Work} {n : Nat} {v : Work}
    (h : (k s.opcodeByte (s.fetched 1)).LeadsTo n v) : (s.fetching k).LeadsTo (n + 1) v :=
  (Work.perform_leadsTo (w := s.fetching k) (Nat.succ_pos _)).trans h

/-- The byte at `PC` after `n` fetches (R27). -/
theorem State.fetched_opcodeByte (s : State) (n : Nat) :
    (s.fetched n).opcodeByte = Memory.read s.mem (s.pc + BitVec.ofNat 16 n) := by
  rw [State.opcodeByte, State.fetched_mem, State.fetched_pc]

/-- The work of the next instruction is the fetches of its bytes, then the work of its form (R116). In the plain space the
driver decodes with zero for a byte that it does not fetch, which changes nothing (`plainForm_congr`). -/
theorem State.instrWork_leadsTo (s : State) :
    s.instrWork.LeadsTo (fetchCount s.opcodeByte)
      (formWork (formOf s.instrAt) (s.fetched (fetchCount s.opcodeByte))) := by
  rw [State.formOf_instrAt, State.instrWork, State.instrWorkWith]
  cases hb : s.opcodeByte == Config.cbPrefixByte
  · cases hi : Config.params.invalidOpcodes.contains s.opcodeByte
    · rcases fetchCount_cases s.opcodeByte with hn | hn | hn
      · rw [hn, cond_false, plainForm_congr (c1 := 0) (c2 := 0) hb (by rw [hn]; rfl)]
        refine .fetching ?_
        simp only [hb, hi, hn, cond_false]
        exact .refl _
      · rw [hn, cond_false, plainForm_congr (c2 := 0) hb (by rw [hn]; rfl)]
        refine .fetching ?_
        simp only [hb, hi, hn, cond_false]
        exact .fetching (.refl _)
      · have h2 : Memory.read s.mem (s.pc + 2) = (s.fetched 2).opcodeByte := (s.fetched_opcodeByte 2).symm
        rw [hn, cond_false, h2]
        refine .fetching ?_
        simp only [hb, hi, hn, cond_false]
        exact .fetching (.fetching (.refl _))
    · rw [fetchCount_default_invalid hi, cond_false, formWork_default_invalid hi]
      refine .fetching ?_
      simp only [hb, hi, cond_false, cond_true]
      exact .refl _
  · have hop : s.opcodeByte = Config.cbPrefixByte := eq_of_beq hb
    have hn : fetchCount s.opcodeByte = 2 := by rw [hop]; rfl
    rw [hn, cond_true]
    refine .fetching ?_
    simp only [hb, cond_true]
    exact .fetching (.refl _)

/-! ## The M-cycles of the forms -/

/-- The M-cycles that the work `k` spends, from every state, are those that it records. -/
def Traced (k : State → Work) : Prop := ∀ s, (k s).run.cycles.length = s.cycles.length + (k s).cycleCount

/-- Work that spends no M-cycle records none. -/
theorem Traced.done {f : State → State} (h : ∀ s, (f s).cycles = s.cycles) : Traced fun s => .done (f s) :=
  fun s => congrArg List.length (h s)

/-- A change of the state that records nothing may come first. -/
theorem Traced.comp {k : State → Work} (hk : Traced k) {f : State → State} (h : ∀ s, (f s).cycles = s.cycles) :
    Traced fun s => k (f s) := fun s => by rw [hk, h]

theorem Traced.reading {k : Byte → State → Work} (hk : ∀ v, Traced (k v)) (a : State → Word) :
    Traced fun s => s.reading (a s) k := fun s => by
  rw [State.reading_run, State.reading_cycleCount, hk, State.afterRead_cycles]
  exact Nat.add_right_comm _ 1 _

theorem Traced.writing {k : State → Work} (hk : Traced k) (a : State → Word) (v : State → Byte) :
    Traced fun s => s.writing (a s) (v s) k := fun s => by
  rw [State.writing_run, State.writing_cycleCount, hk, State.afterWrite_cycles]
  exact Nat.add_right_comm _ 1 _

theorem Traced.idling {k : State → Work} (hk : Traced k) : Traced fun s => s.idling k := fun s => by
  rw [State.idling_run, State.idling_cycleCount, hk, State.afterInternal_cycles]
  exact Nat.add_right_comm _ 1 _

theorem Traced.popping {k : Word → State → Work} (hk : ∀ v, Traced (k v)) : Traced fun s => s.popping k := by
  intro s
  rw [State.popping_run, State.popping_cycleCount, hk]
  exact Nat.add_right_comm _ 2 _

/-- Taken or not taken. -/
theorem Traced.cond {k l : State → Work} (hk : Traced k) (hl : Traced l) (cc : Cond) :
    Traced fun s => bif s.flags.cond cc then k s else l s := by
  intro s
  beta_reduce
  cases s.flags.cond cc with
  | false => exact hl s
  | true => exact hk s

theorem Traced.withAluSrc {k : Byte → State → Work} (hk : ∀ v, Traced (k v)) (x : AluSrc) :
    Traced fun s => s.withAluSrc x k := by
  cases x with
  | reg r => exact fun s => hk _ s
  | atHL => exact Traced.reading hk _
  | imm n => exact hk n

theorem Traced.withOpnd8 {k : Byte → State → Work} (hk : ∀ v, Traced (k v)) (x : Opnd8) :
    Traced fun s => s.withOpnd8 x k := by
  cases x with
  | reg r => exact fun s => hk _ s
  | atHL => exact Traced.reading hk _

theorem Traced.putOpnd8 {k : State → Work} (hk : Traced k) (x : Opnd8) (v : Byte) :
    Traced fun s => s.putOpnd8 x v k := by
  cases x with
  | reg r => exact hk.comp fun s => s.setR8_cycles r v
  | atHL => exact hk.writing State.hl fun _ => v

theorem alu_traced (op : AluOp) (x : AluSrc) : Traced (alu op x) := by
  refine Traced.withAluSrc (fun v => ?_) x
  cases op with
  | cp => exact .done fun s => rfl
  | _ => exact .done fun s => (State.setFlags_cycles _ _).trans (State.setR8_cycles _ _ _)

theorem rotOpnd_traced (op : RotOp) (x : Opnd8) : Traced (rotOpnd op x) :=
  Traced.withOpnd8 (fun v s => Traced.putOpnd8 (.done fun u => u.setFlags_cycles (rotOut op v s.flags.c).fl) x _ s) x

theorem bitOpnd_traced (b : BitNo) (x : Opnd8) : Traced (bitOpnd b x) :=
  Traced.withOpnd8 (fun _ => .done fun s => s.setFlags_cycles _) x

theorem runCb_traced (f : CbForm) : Traced (runCb f) := by
  cases f with
  | rot op x => exact rotOpnd_traced op x
  | bit b x => exact bitOpnd_traced b x
  | res b x => exact Traced.withOpnd8 (fun v => (Traced.done fun s => rfl).putOpnd8 x (v &&& ~~~bitMask b)) x
  | set b x => exact Traced.withOpnd8 (fun v => (Traced.done fun s => rfl).putOpnd8 x (v ||| bitMask b)) x

/-- The work of every form records the M-cycles that it spends. -/
theorem formWork_traced (f : Form) : Traced (formWork f) := by
  cases f with
  | cbPrefix =>
    exact Traced.reading
      (fun v => (runCb_traced (cbFormOf v)).comp (f := fun s => s.setPC (s.pc + 1)) fun s => rfl) State.pc
  | ldRegReg d r | ldRegImm d n => exact .done fun s => s.setR8_cycles d _
  | ldRegAtHL d => exact Traced.reading (fun v => .done fun s => s.setR8_cycles d v) State.hl
  | loadA m =>
    exact Traced.reading (fun v => .done fun s => (State.accUpdate_cycles _ m).trans (s.setR8_cycles .A v))
      fun s => s.accAddr m
  | storeA m => exact (Traced.done fun s => s.accUpdate_cycles m).writing (fun s => s.accAddr m) fun s => s.r8 .A
  | ldPairImm p nn => exact .done fun s => s.setPair_cycles p nn
  | pop q => exact Traced.popping fun v => .done fun s => s.setStackPair_cycles q v
  | alu op x => exact alu_traced op x
  | incReg r | decReg r => exact .done fun s => s.setR8_cycles r _
  | incPair p | decPair p => exact (Traced.done fun s => s.setPair_cycles p _).idling
  | cb f => exact runCb_traced f
  | jpCond cc _ | jrCond cc _ | callCond cc _ => exact Traced.cond (fun s => rfl) (fun s => rfl) cc
  | retCond cc => exact (Traced.cond (fun s => rfl) (fun s => rfl) cc).idling
  | _ => exact fun s => rfl

/-- `n` fetches record `n` M-cycles (R27). -/
theorem State.fetched_cycles_length (s : State) (n : Nat) : (s.fetched n).cycles.length = s.cycles.length + n := by
  rw [State.fetched_cycles, List.length_append, List.length_reverse, List.length_map, List.length_range, Nat.add_comm]

/-- The work of the next instruction, its fetches included, records the M-cycles that it spends. -/
theorem instrWork_traced : Traced State.instrWork := fun s => by
  have h := s.instrWork_leadsTo
  rw [← h.run, ← h.cycleCount, formWork_traced, State.fetched_cycles_length, Nat.add_assoc,
    Nat.add_comm (fetchCount _)]

/-! ## The driver on work in flight (R107, R115 to R117) -/

/-- With no M-cycle left the driver is `Idle` in the final state. -/
theorem settle_of_cycleCount_eq_zero {w : Work} (h : w.cycleCount = 0) (n : Nat) : settle n w = .idle w.run := by
  cases w with
  | done s => rfl
  | read s a k | write s a v k | internal s k => cases h

/-- With M-cycles left it is `Executing`. -/
theorem settle_of_cycleCount_pos {w : Work} (h : 0 < w.cycleCount) (n : Nat) : settle n w = .executing n w := by
  cases w with
  | done s => cases h
  | read s a k | write s a v k | internal s k => rfl

/-- The next M-cycle of work with M-cycles left is performed. -/
theorem cycleStep_next {w : Work} (h : 0 < w.cycleCount) (n : Nat) :
    cycleStep n n w = .next (settle (n + 1) w.perform) := by
  cases w with
  | done s => cases h
  | read s a k | write s a v k | internal s k => simp only [cycleStep, beq_self_eq_true, cond_true]

theorem Clocked.advances_succ {c d : Clocked} (h : c.advance = .next d) (k : Nat) :
    Clocked.advances (k + 1) c = Clocked.advances k d := by
  simp only [Clocked.advances, h]

/-- After `k` advances, no more than the work has M-cycles, the driver stands at what is left of the work. -/
theorem Clocked.advances_settle {k : Nat} {w : Work} (h : k ≤ w.cycleCount) (n : Nat) :
    ∃ v, Clocked.advances k (settle n w) = .next (settle (n + k) v) ∧ w.LeadsTo k v := by
  induction k generalizing w n with
  | zero => exact ⟨w, rfl, .refl w⟩
  | succ k ih =>
    have hw : 0 < w.cycleCount := Nat.zero_lt_of_lt h
    have hp := Work.perform_leadsTo hw
    have ha : (settle n w).advance = .next (settle (n + 1) w.perform) := by
      rw [settle_of_cycleCount_pos hw]
      exact cycleStep_next hw n
    have hk : k ≤ w.perform.cycleCount := Nat.le_of_succ_le_succ (h.trans_eq hp.cycleCount.symm)
    obtain ⟨v, hv, hl⟩ := ih hk (n + 1)
    refine ⟨v, ?_, hp.trans hl⟩
    rw [Clocked.advances_succ ha, hv, Nat.add_assoc, Nat.add_comm 1 k]

/-- From `Idle`, while CORE is neither faulted nor halted, an advance performs the first M-cycle of the next instruction
(R116). -/
theorem Clocked.advance_idle {s : State} (hf : s.faulted = false) (hh : s.halted = false) :
    (Clocked.idle s).advance = (settle 1 s.instrWork).advance := by
  simp only [Clocked.advance, Clocked.advanceWith, hf, hh, cond_false]
  rfl

/-- The driver from `Idle` stands at what is left of the next instruction. -/
theorem Clocked.advances_idle {s : State} (hf : s.faulted = false) (hh : s.halted = false) {k : Nat} (hk : 0 < k)
    (hn : k ≤ s.instrWork.cycleCount) :
    ∃ n v, Clocked.advances k (.idle s) = .next (settle n v) ∧ s.instrWork.LeadsTo k v := by
  have ha : Clocked.advances k (.idle s) = Clocked.advances k (settle 1 s.instrWork) := by
    obtain ⟨j, rfl⟩ := Nat.exists_eq_succ_of_ne_zero hk.ne'
    simp only [Clocked.advances, Clocked.advance_idle hf hh]
  exact ⟨1 + k, ha ▸ Clocked.advances_settle hn 1⟩

/-! ## After a fault (R119, R301) -/

/-- No accessor writes the fault latch (R37). -/
theorem accessorChanges_fault (w : AccessorWrite) : (accessorChanges w).fault = false := by
  cases w with
  | reg16 r v => cases r <;> rfl
  | reg8 r v => cases r <;> rfl
  | flag f b | ime b | halted b => rfl

/-- After a fault every transition but a reset keeps the latch and its byte. -/
theorem transition_keeps_fault {e : EnvEvent} {s t : State} (hf : s.faulted = true) (hr : e ≠ .reset)
    (ht : transition e s = .next t) : t.faulted = s.faulted ∧ t.faultOpcode = s.faultOpcode := by
  cases e with
  | core =>
    rw [transition_core, advance_faulted hf] at ht
    cases ht
    exact ⟨rfl, rfl⟩
  | int v => simp [State.dispatchEnabled, hf] at ht
  | wake => simp [State.wakeEnabled, hf] at ht
  | mem a v =>
    cases ht
    exact ⟨rfl, rfl⟩
  | dbg w =>
    cases ht
    exact (s.accessorWrite_evolves w).keptBut.fault (accessorChanges_fault w)
  | reset => exact absurd rfl hr

end Sys2Proof.Machine

namespace Sys2Proof.Proofs

open Sys2Proof.Machine Sys2Proof.Safety

/-- Settles O58: the driver performs the very work that the whole instruction runs, and each M-cycle is recorded. -/
theorem driverRefinesTheWholeInstruction : Obligations.DriverRefinesTheWholeInstruction := by
  intro s hf hh
  have hl := s.instrWork_leadsTo
  have hpos : 0 < s.instrWork.cycleCount := Nat.succ_pos _
  refine ⟨s.instrWork.run, s.instrWork.cycleCount, ?_, instrWork_traced s, hpos, ?_, fun k hk hn => ?_⟩
  · rw [advance_running hf hh, exec_eq, hl.run]
  · obtain ⟨n, v, hv, hlv⟩ := Clocked.advances_idle hf hh hpos le_rfl
    rw [hv, settle_of_cycleCount_eq_zero (Nat.add_eq_right.1 hlv.cycleCount), hlv.run]
  · obtain ⟨n, v, hv, hlv⟩ := Clocked.advances_idle hf hh hk hn.le
    have hc := hlv.cycleCount
    exact ⟨n, v, by rw [hv, settle_of_cycleCount_pos (by omega)]⟩

/-- Settles O10: the three bytes at `PC` are those that CORE's turn decodes. -/
theorem stepRunsTheDecodedInstruction : Obligations.StepRunsTheDecodedInstruction := by
  rintro s i rest ⟨hf, hh, he⟩ hd
  obtain ⟨-, hi, -⟩ := decode_eq_ok_iff.1 hd
  obtain rfl : s.instrAt = i := hi
  exact ⟨(Instr.wf_iff _).2 s.formOf_instrAt_ne_cbPrefix, (step_idle_schedule he).trans (advance_running hf hh)⟩

/-- Settles O53: after a fault CORE's turn is the identity, and no transition but a reset writes the latch. -/
theorem faultedOrHaltedCoreExecutesNothing : Obligations.FaultedOrHaltedCoreExecutesNothing := by
  intro s
  refine ⟨fun hf => ⟨advance_faulted hf, fun t ht hr => ?_⟩, fun hf hh =>
    ⟨_, advance_halted hf hh, rfl, rfl, Evolves.refl.afterInternal.keptBut⟩⟩
  cases he : s.env with
  | nil =>
    rw [step_idle_schedule he, advance_faulted hf] at ht
    cases ht
    exact ⟨hf, rfl⟩
  | cons e rest =>
    rw [step_scheduled he] at ht
    have hk := transition_keeps_fault (s := { s with env := rest }) hf (fun h => hr rest (h ▸ he)) ht
    exact ⟨hk.1.trans hf, hk.2⟩

end Sys2Proof.Proofs
end

