-- ==== Sys2Proof/Proofs/Load8.lean ====
section
/-! PROOFS. The 8-bit loads (`41_load8.md`): the loads and stores of a register or an immediate (O17, O18, O19) and of `A`
(O20, O21); and the words written out by hand (O9). An instruction is told through its form: its bytes are those of
`encodeForm`, its end is the run of `formWork`, and `formWork_evolves` gives its frame, so that each proof has its
M-cycles and the value moved to show. -/

namespace Sys2Proof.Safety

open Sys2Proof.Machine

/-! ## An instruction through its form -/

/-- The bytes of a form are those of its instruction, and the decoder reads them back (R73, R276). -/
theorem encoded_encodeForm {f : Form} (hf : f ≠ .cbPrefix) : Encoded (encodeForm f) (instrOf f) :=
  ⟨by rw [encode, formOf_instrOf], decode_encodeForm hf⟩

/-- The instruction of a form retires at the end of the form's work. -/
theorem retires_formWork {f : Form} {s : State} {ms : List MCycle}
    (h : (formWork f s).run.cycles = ms.reverse ++ s.cycles) : Retires (instrOf f) s (formWork f s).run ms :=
  ⟨exec_instrOf f s, h⟩

end Sys2Proof.Safety

namespace Sys2Proof.Machine

/-- A register just written reads as the byte written (R22). -/
theorem State.setR8_r8_same (s : State) (r : Reg8) (v : Byte) : (s.setR8 r v).r8 r = v :=
  (s.setR8_r8 r v r).trans (if_pos rfl)

/-! ## The addressing modes of `A` (R146 to R150) -/

/-- An address in the page `FF00`: the byte is zero-extended, and nothing wraps (R150). -/
theorem highAddr_toNat (b : Byte) : (0xFF00 + zext16 b).toNat = 0xFF00 + b.toNat := by
  have hb := b.isLt
  rw [BitVec.toNat_add_of_lt (by simp; omega), zext16_toNat]
  rfl

/-- The update of `HL` leaves `A` alone. -/
@[simp] theorem State.accUpdate_r8_A (s : State) (m : AccMode) : (s.accUpdate m).r8 .A = s.r8 .A :=
  congrArg hi (s.accUpdate_af m)

end Sys2Proof.Machine

namespace Sys2Proof.Proofs

open Sys2Proof.Machine Sys2Proof.Safety

/-- Settles O17: both forms are one write of the destination register. -/
theorem loadRegisterFromRegisterOrImmediate : Obligations.LoadRegisterFromRegisterOrImmediate := by
  intro d r n s
  exact ⟨⟨encoded_encodeForm (f := .ldRegReg d r) nofun,
      _, retires_formWork (s.setR8_cycles d _), s.setR8_r8_same d _, (formWork_evolves (.ldRegReg d r) s).keptBut⟩,
    encoded_encodeForm (f := .ldRegImm d n) nofun,
      _, retires_formWork (s.setR8_cycles d n), s.setR8_r8_same d n, (formWork_evolves (.ldRegImm d n) s).keptBut⟩

/-- Settles O18: the read comes before the write of the register, so the address is the old `HL`. -/
theorem loadRegisterFromMemory : Obligations.LoadRegisterFromMemory := by
  intro d s
  exact ⟨encoded_encodeForm (f := .ldRegAtHL d) nofun,
    _, retires_formWork (State.setR8_cycles _ d _), State.setR8_r8_same _ d _,
    (formWork_evolves (.ldRegAtHL d) s).keptBut⟩

/-- Settles O19: both forms are one write at `HL`, and memory is RAM (log 4). -/
theorem storeRegisterOrImmediateAtHL : Obligations.StoreRegisterOrImmediateAtHL := by
  intro r n s
  have hm := Memory.read_write_same s.mem s.hl
  exact ⟨⟨encoded_encodeForm (f := .ldAtHLReg r) nofun,
      _, retires_formWork (s.afterWrite_cycles s.hl _), hm _, (formWork_evolves (.ldAtHLReg r) s).keptBut⟩,
    encoded_encodeForm (f := .ldAtHLImm n) nofun,
      _, retires_formWork (s.afterWrite_cycles s.hl n), hm n, (formWork_evolves (.ldAtHLImm n) s).keptBut⟩

/-- Settles O20: one read at the address of the mode, then `A` and the mode's update of `HL`. -/
theorem loadAccumulatorFromMemory : Obligations.LoadAccumulatorFromMemory := by
  intro m s
  refine ⟨?bytes, ?address, _, retires_formWork (f := .loadA m) ?cycles, ?value, ?hl,
    (formWork_evolves (.loadA m) s).keptBut⟩
  case bytes => cases m <;> exact encoded_encodeForm nofun
  case address =>
    cases m with
    | atBC => exact congrArg BitVec.toNat s.bc_eq
    | atDE => exact congrArg BitVec.toNat s.de_eq
    | atHLinc | atHLdec => exact congrArg BitVec.toNat s.hl_eq
    | atNn nn => rfl
    | atHighN n => exact highAddr_toNat n
    | atHighC => exact highAddr_toNat (s.r8 .C)
  case cycles => exact State.accUpdate_cycles _ m
  case value => exact (State.accUpdate_r8_A _ m).trans (State.setR8_r8_same _ .A _)
  case hl => cases m <;> rfl

/-- Settles O21: one write of `A` at the address of the mode, then the mode's update of `HL`; memory is RAM (log 4). -/
theorem storeAccumulatorToMemory : Obligations.StoreAccumulatorToMemory := by
  intro m s
  refine ⟨?bytes, _, retires_formWork (f := .storeA m) ?cycles, ?memory, ?hl,
    (formWork_evolves (.storeA m) s).keptBut⟩
  case bytes => cases m <;> exact encoded_encodeForm nofun
  case cycles => exact State.accUpdate_cycles _ m
  case memory =>
    exact (congrArg (Memory.read · _) (State.accUpdate_mem _ m)).trans (Memory.read_write_same s.mem _ _)
  case hl => cases m <;> rfl

/-- Settles O9: the decoder computes each word. -/
theorem writtenOutWordsDecode : Obligations.WrittenOutWordsDecode :=
  ⟨rfl, rfl, rfl, rfl, rfl, rfl, rfl, rfl, rfl, rfl⟩

end Sys2Proof.Proofs
end

