-- ==== Sys2Proof/Proofs/Load16Stack.lean ====
section
/-! PROOFS. The 16-bit loads and the stack (`42_load16_stack.md`): the loads of a pair and of `SP` (O22), the store of `SP`
(O23), push and pop (O24, O25) with their round trip (O26), and `SP` plus a displacement (O27). What a push and a pop leave
in the trace, in `SP` and in memory is said once, of `State.pushed` and `State.popped`. -/

namespace Sys2Proof.Machine

/-! ## Push and pop (R9) -/

/-- The word that a pop takes: the low byte at `SP`, the high byte above it. -/
def State.stackTop (s : State) : Word := mk16 (Memory.read s.mem (s.sp + 1)) (Memory.read s.mem s.sp)

@[simp] theorem State.pushed_sp (s : State) (v : Word) : (s.pushed v).sp = s.sp - 2 := word_sub_one_one s.sp

theorem State.pushed_mem (s : State) (v : Word) :
    (s.pushed v).mem = Memory.write (Memory.write s.mem (s.sp - 1) (hi v)) (s.sp - 2) (lo v) :=
  congrArg (Memory.write _ · (lo v)) (word_sub_one_one s.sp)

theorem State.pushed_cycles (s : State) (v : Word) :
    (s.pushed v).cycles = .write (s.sp - 2) (lo v) :: .write (s.sp - 1) (hi v) :: s.cycles :=
  congrArg (MCycle.write · (lo v) :: _) (word_sub_one_one s.sp)

/-- The low byte of a push is written last and reads back (log 4). -/
theorem State.pushed_read_low (s : State) (v : Word) : Memory.read (s.pushed v).mem (s.sp - 2) = lo v := by
  rw [State.pushed_mem, Memory.read_write_same]

/-- The high byte of a push stands at another address than the low one, so it reads back as well (log 4). -/
theorem State.pushed_read_high (s : State) (v : Word) : Memory.read (s.pushed v).mem (s.sp - 1) = hi v := by
  rw [State.pushed_mem]
  exact (Memory.read_write_other _ _ (word_sub_one_ne s.sp)).trans (Memory.read_write_same _ _ _)

/-- What was pushed is what a pop takes next (R160). -/
@[simp] theorem State.pushed_stackTop (s : State) (v : Word) : (s.pushed v).stackTop = v := by
  have ha : s.sp - 2 + 1 = s.sp - 1 := by bv_omega
  rw [State.stackTop, State.pushed_sp, ha, State.pushed_read_high, State.pushed_read_low, mk16_hi_lo]

@[simp] theorem State.popped_sp (s : State) : s.popped.sp = s.sp + 2 := word_add_one_one s.sp

/-- `PUSH rr` pushes the pair after an internal M-cycle (R164). -/
theorem push_run (q : StackPair) (s : State) : (push q s).run = s.afterInternal.pushed (s.stackPair q) := by
  cases q <;> rfl

/-- `POP rr` writes to the pair what it takes from the stack (R165). -/
theorem pop_run (q : StackPair) (s : State) : (pop q s).run = s.popped.setStackPair q s.stackTop := rfl

/-! ## The pairs of the stack instructions -/

/-- A pair just written holds the high byte unchanged, `AF` too. -/
theorem State.setStackPair_hi (s : State) (q : StackPair) (w : Word) : hi ((s.setStackPair q w).stackPair q) = hi w := by
  rw [State.setStackPair_stackPair]
  split <;> simp

/-- A pair just written holds the low byte unchanged, but for bits 3:0 of `F` (R24). -/
theorem State.setStackPair_lo (s : State) (q : StackPair) (w : Word) :
    lo ((s.setStackPair q w).stackPair q) = if q = .AF then lo w &&& 0xF0 else lo w := by
  rw [State.setStackPair_stackPair]
  split <;> simp

/-- No flag lies in bits 3:0 (R23). -/
theorem Flags.ofByte_mask (b : Byte) : Flags.ofByte (b &&& 0xF0#8) = Flags.ofByte b := by
  rw [← Flags.toByte_ofByte, Flags.ofByte_toByte]

/-- A write of `AF` takes the flags from the low byte (R23, R24). -/
theorem State.setAF_flags (s : State) (w : Word) : (s.setAF w).flags = Flags.ofByte (lo w) := by
  rw [State.flags, State.setAF_f, Flags.ofByte_mask]

/-! ## `SP` plus a displacement (R105) -/

/-- The sum with the sign-extended byte, and the carries of the low bytes as integers (R105; decision D20). -/
theorem addsp_eq (sp : Word) (e : Byte) :
    addsp sp e =
      { r := sp + e.signExtend 16, h := decide (sp.toNat % 16 + e.toNat % 16 > 15),
        c := decide (sp.toNat % 256 + e.toNat > 255) } := by
  simp only [addsp, sext16_eq_signExtend, BitVec.ofNat_eq_ofNat, word_nibble_toNat, nibble_toNat, word_byte_toNat]

end Sys2Proof.Machine

namespace Sys2Proof.Proofs

open Sys2Proof.Machine Sys2Proof.Safety

/-- Settles O22: both forms are one write of a 16-bit register. -/
theorem loadPairOrStackPointer : Obligations.LoadPairOrStackPointer := by
  intro p nn s
  exact ⟨⟨encoded_encodeForm (f := .ldPairImm p nn) nofun,
      _, retires_formWork (s.setPair_cycles p nn), s.setPair_pair p nn, (formWork_evolves (.ldPairImm p nn) s).keptBut⟩,
    encoded_encodeForm (f := .ldSPHL) nofun,
      _, retires_formWork (f := .ldSPHL) rfl, s.hl_eq, (formWork_evolves .ldSPHL s).keptBut⟩

/-- Settles O23: two writes at addresses that differ, so the second leaves the first; memory is RAM (log 4). -/
theorem storeStackPointer : Obligations.StoreStackPointer := by
  intro nn s
  have hlow : Memory.read (formWork (.ldAtNnSP nn) s).run.mem nn = lo s.sp :=
    (Memory.read_write_other _ _ (word_add_one_ne nn)).trans (Memory.read_write_same _ _ _)
  exact ⟨encoded_encodeForm (f := .ldAtNnSP nn) nofun, _, retires_formWork rfl, hlow, Memory.read_write_same _ _ _,
    (formWork_evolves (.ldAtNnSP nn) s).keptBut⟩

/-- Settles O24: the push of the pair after an internal M-cycle; memory is RAM (log 4). -/
theorem pushWritesTheStack : Obligations.PushWritesTheStack := by
  intro q s
  have hrun : (formWork (.push q) s).run = s.afterInternal.pushed (s.stackPair q) := push_run q s
  refine ⟨encoded_encodeForm (f := .push q) nofun, _, retires_formWork ?cycles, ?sp, ?high, ?low, ?af,
    (formWork_evolves (.push q) s).keptBut⟩
  case cycles => exact hrun ▸ s.afterInternal.pushed_cycles _
  case sp => exact hrun ▸ s.afterInternal.pushed_sp _
  case high => exact hrun ▸ s.afterInternal.pushed_read_high _
  case low => exact hrun ▸ s.afterInternal.pushed_read_low _
  case af =>
    rintro rfl
    exact ⟨hi_mk16 _ _, lo_mk16 _ _, s.f_lowNibble⟩

/-- Settles O25: the pop of the pair; a write of `AF` is masked (R24). -/
theorem popReadsTheStack : Obligations.PopReadsTheStack := by
  intro q s l h
  have hhi : hi s.stackTop = h := hi_mk16 h l
  have hlo : lo s.stackTop = l := lo_mk16 h l
  refine ⟨encoded_encodeForm (f := .pop q) nofun, _, retires_formWork (f := .pop q) ?cycles, ?sp, ?high, ?low, ?af,
    (formWork_evolves (.pop q) s).keptBut⟩
  case cycles => exact s.popped.setStackPair_cycles q _
  case sp => exact (s.popped.setStackPair_sp q _).trans s.popped_sp
  case high => exact (s.popped.setStackPair_hi q _).trans hhi
  case low => exact hlo ▸ s.popped.setStackPair_lo q s.stackTop
  case af =>
    rintro rfl
    have hfl : (s.popped.setAF s.stackTop).flags = Flags.ofByte l := hlo ▸ s.popped.setAF_flags s.stackTop
    have hA : (s.popped.setAF s.stackTop).r8 .A = h := ((s.popped.setAF_r8 _ .A).trans (if_pos rfl)).trans hhi
    exact ⟨hA, hlo ▸ s.popped.setAF_f s.stackTop, congrArg Flags.z hfl, congrArg Flags.n hfl, congrArg Flags.h hfl,
      congrArg Flags.c hfl⟩

/-- Settles O26: the pop takes the word just pushed, and the two changes of `SP` cancel; memory is RAM (log 4). -/
theorem pushThenPopRoundTrip : Obligations.PushThenPopRoundTrip := by
  intro q q' s
  have hpush : exec (instrOf (.push q)) s = .next (s.afterInternal.pushed (s.stackPair q)) := by
    rw [exec_instrOf, formWork, push_run]
  refine ⟨_, _, hpush, exec_instrOf (.pop q') _, ?_, ?_⟩
  · rw [formWork, pop_run, State.setStackPair_sp, State.popped_sp, State.pushed_sp]
    exact BitVec.sub_add_cancel _ _
  · rw [formWork, pop_run, State.pushed_stackTop]
    exact State.setStackPair_stackPair _ q' _

/-- Settles O27: both forms write the sum and the flags that `addsp` gives. -/
theorem stackPointerPlusDisplacement : Obligations.StackPointerPlusDisplacement := by
  intro e s
  have hr := congrArg Sum16.r (addsp_eq s.sp e)
  have hfl := congrArg (fun a => Flags.mk false false a.h a.c) (addsp_eq s.sp e)
  exact ⟨⟨encoded_encodeForm (f := .ldHLSPe e) nofun, _, retires_formWork (f := .ldHLSPe e) rfl, hr,
      (State.setFlags_flags _ _).trans hfl, (formWork_evolves (.ldHLSPe e) s).keptBut⟩,
    encoded_encodeForm (f := .addSPe e) nofun, _, retires_formWork (f := .addSPe e) rfl, hr,
      (State.setFlags_flags _ _).trans hfl, (formWork_evolves (.addSPe e) s).keptBut⟩

end Sys2Proof.Proofs
end

