-- ==== Sys2Proof/Proofs/Alu8.lean ====
section
/-! PROOFS. 8-bit arithmetic and logic (`43_alu8.md`): the accumulator operations (O29, O30, O31), `INC` and `DEC` (O32),
`DAA` (O33), `CPL`, `SCF` and `CCF` (O35). How a result and its flags are written is said once for a register, for the
flags alone, for the byte at `HL` and for the accumulator operations; the result and the flags themselves are said in
integers, function by function. -/

namespace Sys2Proof.Machine

open Sys2Proof.Safety

/-! ## A result and its flags are written -/

section
variable {f : Form} {s u : State} {ms : List MCycle}

/-- A form that ends with the writes of register `r` and of the flags. -/
theorem formWork_writes_register {r : Reg8} {o : AluOut} (hf : f ≠ .cbPrefix)
    (hrun : (formWork f s).run = (u.setR8 r o.r).setFlags o.fl) (hu : u.cycles = ms.reverse ++ s.cycles) :
    Encoded (encodeForm f) (instrOf f) ∧ ∃ t, Retires (instrOf f) s t ms ∧ t.r8 r = o.r ∧ t.flags = o.fl
      ∧ KeptBut (formChanges f s) s t := by
  refine ⟨encoded_encodeForm hf, _, retires_formWork ?cycles, ?value, ?flags, (formWork_evolves f s).keptBut⟩
  all_goals rw [hrun]
  case cycles => exact (u.setR8_cycles r o.r).trans hu
  case value => exact (State.setFlags_r8 _ _ r).trans (u.setR8_r8_same r o.r)
  case flags => exact State.setFlags_flags _ _

/-- A form that ends with the write of the flags. -/
theorem formWork_writes_flags {fl : Flags} (hf : f ≠ .cbPrefix) (hrun : (formWork f s).run = u.setFlags fl)
    (hu : u.cycles = ms.reverse ++ s.cycles) :
    Encoded (encodeForm f) (instrOf f) ∧ ∃ t, Retires (instrOf f) s t ms ∧ t.flags = fl
      ∧ KeptBut (formChanges f s) s t := by
  refine ⟨encoded_encodeForm hf, _, retires_formWork ?cycles, ?flags, (formWork_evolves f s).keptBut⟩
  all_goals rw [hrun]
  case cycles => exact hu
  case flags => exact State.setFlags_flags _ _

/-- A form that reads the byte at `HL`, writes a byte there and then writes the flags: the byte reads back (log 4). -/
theorem formWork_writes_atHL {o : AluOut} (hf : f ≠ .cbPrefix)
    (hrun : (formWork f s).run = ((s.afterRead s.hl).afterWrite s.hl o.r).setFlags o.fl) :
    Encoded (encodeForm f) (instrOf f)
      ∧ ∃ t, Retires (instrOf f) s t [.read s.hl (Memory.read s.mem s.hl), .write s.hl o.r]
        ∧ Memory.read t.mem s.hl = o.r ∧ t.flags = o.fl ∧ KeptBut (formChanges f s) s t := by
  refine ⟨encoded_encodeForm hf, _, retires_formWork ?cycles, ?memory, ?flags, (formWork_evolves f s).keptBut⟩
  all_goals rw [hrun]
  case cycles => rfl
  case memory => exact Memory.read_write_same s.mem s.hl o.r
  case flags => exact State.setFlags_flags _ _

end

/-! ## The accumulator operations (R175) -/

/-- The right operand is `aluOperand`, and getting it leaves nothing but its M-cycles. -/
theorem State.withAluSrc_run (s : State) (x : AluSrc) (k : Byte → State → Work) :
    ∃ u, (s.withAluSrc x k).run = (k (aluOperand x s) u).run ∧ u.cycles = (aluReads x s).reverse ++ s.cycles
      ∧ u.r8 .A = s.r8 .A ∧ u.flags = s.flags := by
  cases x with
  | reg r => exact ⟨s, rfl, rfl, rfl, rfl⟩
  | atHL => exact ⟨s.afterRead s.hl, rfl, rfl, rfl, rfl⟩
  | imm n => exact ⟨s, rfl, rfl, rfl, rfl⟩

/-- The result and the flags of an accumulator operation in the state `s`. -/
def State.aluResult (op : AluOp) (x : AluSrc) (s : State) : AluOut := aluOut op (s.r8 .A) (aluOperand x s) s.flags.c

/-- The bytes of an accumulator operation are those of its row (R175). -/
theorem encodeAlu_eq_aluBytes (op : AluOp) (x : AluSrc) : encodeAlu op x = aluBytes (aluIndex op) x := by cases x <;> rfl

/-- Every accumulator operation but `CP` writes its result to `A`, and the flags. -/
theorem alu_writes_A {op : AluOp} (hop : op ≠ .cp) {x : AluSrc} {s : State} {o : AluOut} (ho : s.aluResult op x = o) :
    Encoded (aluBytes (aluIndex op) x) (instrOf (.alu op x))
      ∧ ∃ t, Retires (instrOf (.alu op x)) s t (aluReads x s) ∧ t.r8 .A = o.r ∧ t.flags = o.fl
        ∧ KeptBut { regs := [.A], flags := true } s t := by
  obtain ⟨u, hrun, hcycles, hA, hfl⟩ := s.withAluSrc_run x fun v s =>
    .done ((s.setR8 .A (aluOut op (s.r8 .A) v s.flags.c).r).setFlags (aluOut op (s.r8 .A) v s.flags.c).fl)
  rw [hA, hfl] at hrun
  subst ho
  rw [← encodeAlu_eq_aluBytes]
  cases op with
  | cp => exact absurd rfl hop
  | _ => exact formWork_writes_register nofun hrun hcycles

/-- `CP` writes the flags of its result (R197 to R199). -/
theorem cp_writes_flags {x : AluSrc} {s : State} {o : AluOut} (ho : s.aluResult .cp x = o) :
    Encoded (aluBytes 7 x) (instrOf (.alu .cp x))
      ∧ ∃ t, Retires (instrOf (.alu .cp x)) s t (aluReads x s) ∧ t.flags = o.fl ∧ KeptBut { flags := true } s t := by
  obtain ⟨u, hrun, hcycles, hA, hfl⟩ := s.withAluSrc_run x fun v s =>
    .done (s.setFlags (aluOut .cp (s.r8 .A) v s.flags.c).fl)
  rw [hA, hfl] at hrun
  subst ho
  rw [show aluBytes 7 x = encodeAlu .cp x from (encodeAlu_eq_aluBytes .cp x).symm]
  exact formWork_writes_flags nofun hrun hcycles

/-- `AND`, `XOR` and `OR` combine `A` and the operand bit by bit; `Z` is that of the new `A`, and `N = C = 0`. -/
theorem alu_writes_bits {op : AluOp} (hop : op ≠ .cp) {x : AluSrc} {s : State} {r : Byte} {h : Bool}
    {g : Bool → Bool → Bool} (ho : s.aluResult op x = logicOut r h)
    (hbits : ∀ j, r.getLsbD j = g ((s.r8 .A).getLsbD j) ((aluOperand x s).getLsbD j)) :
    Encoded (aluBytes (aluIndex op) x) (instrOf (.alu op x))
      ∧ ∃ t, Retires (instrOf (.alu op x)) s t (aluReads x s)
        ∧ (∀ j, (t.r8 .A).getLsbD j = g ((s.r8 .A).getLsbD j) ((aluOperand x s).getLsbD j))
        ∧ t.flags = { z := t.r8 .A == 0, n := false, h := h, c := false }
        ∧ KeptBut { regs := [.A], flags := true } s t := by
  obtain ⟨hbytes, t, hret, hA, hfl, hkept⟩ := alu_writes_A hop ho
  have hr : t.r8 .A = r := hA
  exact ⟨hbytes, t, hret, hr ▸ hbits, hr ▸ hfl, hkept⟩

/-! ## The results and the flags, in integers -/

/-- A test for equal bytes, decided by any condition for it. -/
theorem byte_beq_eq_decide {a b : Byte} {p : Prop} [Decidable p] (h : a = b ↔ p) : (a == b) = decide p :=
  (beq_eq_decide a b).trans (decide_eq_decide.mpr h)

/-- The test `r == 0` of a result (R176 to R204). -/
theorem ofNat_beq_zero (n : Nat) : (BitVec.ofNat 8 n == 0) = decide (n % 256 = 0) :=
  byte_beq_eq_decide BitVec.toNat_inj.symm

/-- The test of a low nibble (R200 to R203). -/
theorem nibble_beq (v k : Byte) : (v &&& 15#8 == k) = decide (v.toNat % 16 = k.toNat) :=
  byte_beq_eq_decide (BitVec.toNat_inj.symm.trans (by rw [nibble_toNat]))

/-- A difference of bytes, in integers. -/
theorem byte_sub_eq_ofInt (a b : Byte) : a - b = BitVec.ofInt 8 (a.toNat - b.toNat) := by
  simp [Int.sub_eq_add_neg, BitVec.ofInt_add, BitVec.ofInt_neg, BitVec.sub_eq_add_neg]

/-- The complement of a byte (R205). -/
theorem byte_not_eq_xor (b : Byte) : ~~~b = b ^^^ 0xFF := (BitVec.xor_allOnes (x := b)).symm

/-- A sum and its flags (R179 to R181). -/
theorem adc8_out (a b : Byte) (cin : Bool) :
    (adc8 a b cin).out false =
      { r := BitVec.ofNat 8 (a.toNat + b.toNat + cin.toNat),
        fl := { z := decide ((a.toNat + b.toNat + cin.toNat) % 256 = 0), n := false,
                h := decide (a.toNat % 16 + b.toNat % 16 + cin.toNat > 15),
                c := decide (a.toNat + b.toNat + cin.toNat > 255) } } := by
  rw [adc8_eq, Sum8.out, ofNat_beq_zero]

/-- A sum without a carry in, and its flags (R176 to R178). -/
theorem add8_out (a b : Byte) :
    (add8 a b).out false =
      { r := BitVec.ofNat 8 (a.toNat + b.toNat),
        fl := { z := decide ((a.toNat + b.toNat) % 256 = 0), n := false,
                h := decide (a.toNat % 16 + b.toNat % 16 > 15), c := decide (a.toNat + b.toNat > 255) } } := by
  rw [add8_eq_adc8]
  exact adc8_out a b false

/-- A difference and its flags (R185 to R187). -/
theorem sbc8_out (a b : Byte) (cin : Bool) :
    (sbc8 a b cin).out true =
      { r := BitVec.ofInt 8 (a.toNat - b.toNat - cin.toNat),
        fl := { z := decide (BitVec.ofInt 8 (a.toNat - b.toNat - cin.toNat) = 0), n := true,
                h := decide (a.toNat % 16 < b.toNat % 16 + cin.toNat),
                c := decide (a.toNat < b.toNat + cin.toNat) } } := by
  rw [sbc8_eq]
  rfl

/-- A difference without a borrow in is zero for equal bytes (R182 to R184, R197 to R199). -/
theorem sub8_out (a b : Byte) :
    (sub8 a b).out true =
      { r := BitVec.ofInt 8 (a.toNat - b.toNat),
        fl := { z := decide (a.toNat = b.toNat), n := true, h := decide (a.toNat % 16 < b.toNat % 16),
                c := decide (a.toNat < b.toNat) } } := by
  have hz : (a - b == 0) = decide (a.toNat = b.toNat) :=
    byte_beq_eq_decide (sub_eq_zero.trans BitVec.toNat_inj.symm)
  rw [sub8, Sum8.out, hz, byte_sub_eq_ofInt, BitVec.ofNat_eq_ofNat, nibble_toNat, nibble_toNat]

/-- An incremented byte and its flags (R200, R201). -/
theorem incOut_eq (v : Byte) (fl : Flags) :
    incOut v fl =
      { r := BitVec.ofNat 8 (v.toNat + 1),
        fl := { z := decide (v.toNat = 255), n := false, h := decide (v.toNat % 16 = 15), c := fl.c } } := by
  have hr : v + 1 = BitVec.ofNat 8 (v.toNat + 1) := by bv_omega
  have hz : (v + 1 == 0) = decide (v.toNat = 255) := byte_beq_eq_decide (by bv_omega)
  rw [incOut, hz, hr, BitVec.ofNat_eq_ofNat, nibble_beq]
  rfl

/-- A decremented byte and its flags (R202, R203). -/
theorem decOut_eq (v : Byte) (fl : Flags) :
    decOut v fl =
      { r := BitVec.ofInt 8 (v.toNat - 1),
        fl := { z := decide (v.toNat = 1), n := true, h := decide (v.toNat % 16 = 0), c := fl.c } } := by
  have hr : v - 1 = BitVec.ofInt 8 (v.toNat - 1) := byte_sub_eq_ofInt v 1
  have hz : (v - 1 == 0) = decide (v.toNat = 1) := byte_beq_eq_decide (by bv_omega)
  rw [decOut, hz, hr, BitVec.ofNat_eq_ofNat, nibble_beq]
  rfl

/-- `DAA` and its flags (R204; decision D27). -/
theorem daaOut_eq (a : Byte) (fl : Flags) :
    let low := if fl.h = true ∨ (fl.n = false ∧ a.toNat % 16 > 9) then 0x06 else 0
    let high := if fl.c = true ∨ (fl.n = false ∧ a.toNat > 0x99) then 0x60 else 0
    let r := if fl.n then a.toNat + 256 - (low + high) else a.toNat + (low + high)
    daaOut a fl =
      { r := BitVec.ofNat 8 r, fl := { z := decide (r % 256 = 0), n := fl.n, h := false, c := decide (high = 0x60) } } := by
  intro low high r
  obtain ⟨z, n, h, c⟩ := fl
  let o := daaOut a ⟨z, n, h, c⟩
  have ho : o.r.toNat = r % 256 ∧ o.fl.c = decide (high = 0x60) := by
    cases n with
    | false => simpa [o, r, low, high] using daaOut_add a z h c
    | true =>
      have hlow : low = if h then 6 else 0 := by simp [low]
      have hhigh : high = if c then 0x60 else 0 := by simp [high]
      have hle : low + high ≤ 256 := by rw [hlow, hhigh]; split <;> split <;> decide
      have hr : r = 256 - (low + high) + a.toNat := (if_pos rfl).trans (by omega)
      have hval := (daaOut_sub a z h c).1
      rw [← hlow, ← hhigh, ← hr] at hval
      exact ⟨hval, by rw [hhigh]; cases c <;> rfl⟩
  obtain ⟨hval, hc⟩ := ho
  have hr : o.r = BitVec.ofNat 8 r := BitVec.eq_of_toNat_eq hval
  have hz : o.fl.z = decide (r % 256 = 0) := (congrArg (· == 0) hr).trans (ofNat_beq_zero r)
  calc o = ⟨o.r, o.fl.z, n, false, o.fl.c⟩ := rfl
    _ = _ := by rw [hr, hz, hc]

end Sys2Proof.Machine

namespace Sys2Proof.Proofs

open Sys2Proof.Machine Sys2Proof.Safety

/-- Settles O29: both forms write to `A` the sum that `add8` or `adc8` gives. -/
theorem addToAccumulator : Obligations.AddToAccumulator := by
  intro x s a v k
  exact ⟨alu_writes_A (op := .add) nofun (add8_out _ _), alu_writes_A (op := .adc) nofun (adc8_out _ _ _)⟩

/-- Settles O30: the difference that `sub8` or `sbc8` gives, which `CP` does not write. -/
theorem subtractFromAccumulatorOrCompare : Obligations.SubtractFromAccumulatorOrCompare := by
  intro x s a v k
  exact ⟨alu_writes_A (op := .sub) nofun (sub8_out _ _), alu_writes_A (op := .sbc) nofun (sbc8_out _ _ _),
    cp_writes_flags (sub8_out _ _)⟩

/-- Settles O31: the operations of BitVec are bit by bit. -/
theorem logicOnAccumulator : Obligations.LogicOnAccumulator := by
  intro x s a v
  exact ⟨alu_writes_bits (op := .and) (g := and) nofun rfl fun _ => BitVec.getLsbD_and,
    alu_writes_bits (op := .xor) (g := bne) nofun rfl fun _ => BitVec.getLsbD_xor,
    alu_writes_bits (op := .or) (g := or) nofun rfl fun _ => BitVec.getLsbD_or⟩

/-- Settles O32: one write of the register, or a read and a write at `HL`, of what `incOut` and `decOut` give. -/
theorem incrementDecrementByte : Obligations.IncrementDecrementByte := by
  intro r s inc incFlags dec decFlags m
  have hinc (v : Byte) : incOut v s.flags = ⟨inc v, incFlags v⟩ := incOut_eq v s.flags
  have hdec (v : Byte) : decOut v s.flags = ⟨dec v, decFlags v⟩ := decOut_eq v s.flags
  refine ⟨?incReg, ?decReg, ?incAtHL, ?decAtHL⟩
  case incReg =>
    exact formWork_writes_register (f := .incReg r) (u := s) (o := ⟨_, _⟩) nofun (hinc (s.r8 r) ▸ rfl) rfl
  case decReg =>
    exact formWork_writes_register (f := .decReg r) (u := s) (o := ⟨_, _⟩) nofun (hdec (s.r8 r) ▸ rfl) rfl
  case incAtHL => exact formWork_writes_atHL (f := .incAtHL) (o := ⟨_, _⟩) nofun (hinc m ▸ rfl)
  case decAtHL => exact formWork_writes_atHL (f := .decAtHL) (o := ⟨_, _⟩) nofun (hdec m ▸ rfl)

/-- Settles O33: `DAA` is one write of what `daaOut` gives. -/
theorem decimalAdjust : Obligations.DecimalAdjust := by
  intro s a fl low high r
  exact formWork_writes_register (f := .daa) (u := s) (o := ⟨_, _⟩) nofun (daaOut_eq (s.r8 .A) fl ▸ rfl) rfl

/-- Settles O35: `CPL` writes `A` and the flags, `SCF` and `CCF` the flags alone. -/
theorem complementAndCarryFlag : Obligations.ComplementAndCarryFlag := by
  intro s
  exact ⟨formWork_writes_register (f := .cpl) (u := s) (o := ⟨_, _⟩) nofun (byte_not_eq_xor _ ▸ rfl) rfl,
    formWork_writes_flags (f := .scf) (u := s) nofun rfl rfl,
    formWork_writes_flags (f := .ccf) (u := s) nofun rfl rfl⟩

end Sys2Proof.Proofs
end

