-- ==== Sys2Proof/Proofs/Alu16.lean ====
section
/-! PROOFS. 16-bit arithmetic (`44_alu16.md`): `ADD HL,rr` (O36), `INC rr` and `DEC rr` (O37). Each is one internal M-cycle
and then one write of a pair: the sum is said in integers, the writes of a pair once for any word. -/

namespace Sys2Proof.Machine

open Sys2Proof.Safety

/-- The sum modulo 65,536, and the carries out of bits 11 and 15 as integers (R104). -/
theorem add16_eq (a b : Word) :
    add16 a b =
      { r := BitVec.ofNat 16 (a.toNat + b.toNat), h := decide (a.toNat % 4096 + b.toNat % 4096 > 4095),
        c := decide (a.toNat + b.toNat > 65535) } := by
  have hr : a + b = BitVec.ofNat 16 (a.toNat + b.toNat) := by bv_omega
  simp only [add16, hr, BitVec.ofNat_eq_ofNat, word_twelve_toNat]

/-- An internal M-cycle leaves every pair as it is. -/
@[simp] theorem State.afterInternal_pair (s : State) (p : Pair) : s.afterInternal.pair p = s.pair p := by cases p <;> rfl

/-- A form that writes a pair after an internal M-cycle (R212, R213). -/
theorem formWork_writes_pair {f : Form} {s : State} {p : Pair} {w : Word} (hf : f ≠ .cbPrefix)
    (hrun : (formWork f s).run = s.afterInternal.setPair p w) :
    Encoded (encodeForm f) (instrOf f) ∧ ∃ t, Retires (instrOf f) s t [.internal] ∧ t.pair p = w
      ∧ KeptBut (formChanges f s) s t := by
  refine ⟨encoded_encodeForm hf, _, retires_formWork ?cycles, ?value, (formWork_evolves f s).keptBut⟩
  all_goals rw [hrun]
  case cycles => exact State.setPair_cycles _ p w
  case value => exact State.setPair_pair _ p w

/-- `ADD HL,rr` writes `HL` and the flags after an internal M-cycle (R211). -/
theorem addHL_run (p : Pair) (s : State) :
    (addHL p s).run =
      (s.afterInternal.setHL (add16 s.hl (s.pair p)).r).setFlags
        { z := s.flags.z, n := false, h := (add16 s.hl (s.pair p)).h, c := (add16 s.hl (s.pair p)).c } := by
  cases p <;> rfl

/-- `INC rr` writes the pair's successor after an internal M-cycle (R212). -/
theorem incPair_run (p : Pair) (s : State) :
    (incPair p s).run = s.afterInternal.setPair p (BitVec.ofNat 16 ((s.pair p).toNat + 1)) := by
  have hinc : s.pair p + 1 = BitVec.ofNat 16 ((s.pair p).toNat + 1) := by bv_omega
  rw [← hinc, ← s.afterInternal_pair]
  rfl

/-- `DEC rr` writes the pair's predecessor, which is 65,535 more modulo 65,536 (R213). -/
theorem decPair_run (p : Pair) (s : State) :
    (decPair p s).run = s.afterInternal.setPair p (BitVec.ofNat 16 ((s.pair p).toNat + 65535)) := by
  have hdec : s.pair p - 1 = BitVec.ofNat 16 ((s.pair p).toNat + 65535) := by bv_omega
  rw [← hdec, ← s.afterInternal_pair]
  rfl

end Sys2Proof.Machine

namespace Sys2Proof.Proofs

open Sys2Proof.Machine Sys2Proof.Safety

/-- Settles O36: after the internal M-cycle, the writes of what `add16` gives; `Z` is written back as it was. -/
theorem addToHL : Obligations.AddToHL := by
  intro p s a b
  have hrun := addHL_run p s
  rw [add16_eq] at hrun
  refine ⟨encoded_encodeForm (f := .addHL p) nofun, _, retires_formWork (f := .addHL p) ?cycles, ?hl, ?flags,
    (formWork_evolves (.addHL p) s).keptBut⟩
  case cycles => exact congrArg State.cycles hrun
  case hl => exact congrArg State.hl hrun
  case flags => exact (congrArg State.flags hrun).trans (State.setFlags_flags _ _)

/-- Settles O37: after the internal M-cycle, one write of the pair. -/
theorem incrementDecrementPair : Obligations.IncrementDecrementPair := by
  intro p s
  exact ⟨formWork_writes_pair (f := .incPair p) nofun (incPair_run p s),
    formWork_writes_pair (f := .decPair p) nofun (decPair_run p s)⟩

end Sys2Proof.Proofs
end

