-- ==== Sys2Proof/Proofs/RotateShiftBit.lean ====
section
/-! PROOFS. Rotates, shifts and the bit instructions (`45_rotate_shift_bit.md`): the accumulator rotates (O38), the CB-space
rotates and shifts on a register (O39) and on `(HL)` (O40), `BIT` (O41), `RES` and `SET` (O42). The shifted bytes of R220
are compared with the rotations of `BitVec` bit by bit, the masks of `RES` and `SET` with `BitSetTo`; the writes of a result
with its flags are those of the 8-bit arithmetic. -/

namespace Sys2Proof.Machine

open Sys2Proof.Safety

/-! ## The operations of R220 as those of `BitVec` -/

theorem getLsbD_bitByte (b : Bool) (i : Nat) : (bitByte b).getLsbD i = (decide (i = 0) && b) := by
  cases b <;> simp [bitByte, BitVec.getLsbD_one]

section
variable (x : Byte)

theorem shiftLeft_or_top_eq_rotateLeft : x <<< 1 ||| bitByte (x.getLsbD 7) = x.rotateLeft 1 := by
  refine BitVec.eq_of_getLsbD_eq fun i _ => ?_
  rw [BitVec.getLsbD_or, BitVec.getLsbD_shiftLeft, getLsbD_bitByte, BitVec.getLsbD_rotateLeft]
  grind

theorem shiftRight_or_bottom_eq_rotateRight : x >>> 1 ||| bitByte (x.getLsbD 0) <<< 7 = x.rotateRight 1 := by
  refine BitVec.eq_of_getLsbD_eq fun i _ => ?_
  rw [BitVec.getLsbD_or, BitVec.getLsbD_ushiftRight, BitVec.getLsbD_shiftLeft, getLsbD_bitByte,
    BitVec.getLsbD_rotateRight]
  grind

/-- The nine bits of `rl`, the carry below bit 0. -/
theorem shiftLeft_or_carry_eq_append (cin : Bool) : x <<< 1 ||| bitByte cin = (x ++ BitVec.ofBool cin).setWidth 8 := by
  refine BitVec.eq_of_getLsbD_eq fun i _ => ?_
  rw [BitVec.getLsbD_or, BitVec.getLsbD_shiftLeft, getLsbD_bitByte, BitVec.getLsbD_setWidth, BitVec.getLsbD_append,
    BitVec.getLsbD_ofBool]
  grind

/-- The nine bits of `rr`, the carry above bit 7. -/
theorem shiftRight_or_carry_eq_append (cin : Bool) :
    x >>> 1 ||| bitByte cin <<< 7 = ((BitVec.ofBool cin ++ x) >>> 1).setWidth 8 := by
  refine BitVec.eq_of_getLsbD_eq fun i _ => ?_
  rw [BitVec.getLsbD_or, BitVec.getLsbD_ushiftRight, BitVec.getLsbD_shiftLeft, getLsbD_bitByte,
    BitVec.getLsbD_setWidth, BitVec.getLsbD_ushiftRight, BitVec.getLsbD_append, BitVec.getLsbD_ofBool]
  grind

theorem shiftRight_or_sign_eq_sshiftRight : x >>> 1 ||| x &&& BitVec.twoPow 8 7 = x.sshiftRight 1 := by
  refine BitVec.eq_of_getLsbD_eq fun i _ => ?_
  rw [BitVec.getLsbD_or, BitVec.getLsbD_ushiftRight, BitVec.getLsbD_and, BitVec.getLsbD_twoPow,
    BitVec.getLsbD_sshiftRight, BitVec.msb_eq_getLsbD_last]
  grind

end

/-- The functions of R220 give the result and the bit that `rotSpec` gives. -/
theorem rotate_eq_rotSpec (op : RotOp) (x : Byte) (cin : Bool) :
    rotate op x cin = ⟨(rotSpec op x cin).1, (rotSpec op x cin).2⟩ := by
  cases op with
  | rlc => exact congrArg (Shifted.mk · x.msb) (shiftLeft_or_top_eq_rotateLeft x)
  | rrc => exact congrArg (Shifted.mk · (x.getLsbD 0)) (shiftRight_or_bottom_eq_rotateRight x)
  | rl => exact congrArg (Shifted.mk · x.msb) (shiftLeft_or_carry_eq_append x cin)
  | rr => exact congrArg (Shifted.mk · (x.getLsbD 0)) (shiftRight_or_carry_eq_append x cin)
  | sra => exact congrArg (Shifted.mk · (x.getLsbD 0)) (shiftRight_or_sign_eq_sshiftRight x)
  | sla | swap | srl => rfl

/-- `Z` is cleared, whatever the result (R221 to R224). -/
theorem accRotOut_eq (op : RotOp) (x : Byte) (cin : Bool) :
    accRotOut op x cin =
      { r := (rotSpec op x cin).1, fl := { z := false, n := false, h := false, c := (rotSpec op x cin).2 } } := by
  rw [accRotOut, rotate_eq_rotSpec]

/-- `Z` is that of the result (R225 to R240). -/
theorem rotOut_eq (op : RotOp) (x : Byte) (cin : Bool) :
    rotOut op x cin =
      { r := (rotSpec op x cin).1,
        fl := { z := (rotSpec op x cin).1 == 0, n := false, h := false, c := (rotSpec op x cin).2 } } := by
  rw [rotOut, rotate_eq_rotSpec]

/-- An accumulator rotate, one of R221 to R224, is one write of `A` and of the flags. -/
theorem accRotate_writes_A {f : Form} {op : RotOp} {s : State} (hf : f ≠ .cbPrefix)
    (hwork : formWork f s = accRotate op s) :
    Encoded (encodeForm f) (instrOf f)
      ∧ ∃ t, Retires (instrOf f) s t [] ∧ t.r8 .A = (rotSpec op (s.r8 .A) s.flags.c).1
        ∧ t.flags = { z := false, n := false, h := false, c := (rotSpec op (s.r8 .A) s.flags.c).2 }
        ∧ KeptBut (formChanges f s) s t :=
  formWork_writes_register (u := s) (o := ⟨_, _⟩) hf (by rw [hwork, ← accRotOut_eq]; rfl) rfl

/-! ## One bit of a byte (R243 to R246) -/

theorem getLsbD_bitMask (b : BitNo) (j : Nat) : (bitMask b).getLsbD j = decide (j = bitNat b) := by
  have hb : bitNat b < 8 := by cases b <;> decide
  have hmask : bitMask b = BitVec.twoPow 8 (bitNat b) := rfl
  simp [hmask, BitVec.getLsbD_twoPow, hb, eq_comm]

theorem bitSetTo_false_and_not_bitMask (b : BitNo) (x : Byte) : BitSetTo (bitNat b) false x (x &&& ~~~bitMask b) := by
  intro j hj
  rw [BitVec.getLsbD_and, BitVec.getLsbD_not, getLsbD_bitMask]
  split <;> simp [*]

theorem bitSetTo_true_or_bitMask (b : BitNo) (x : Byte) : BitSetTo (bitNat b) true x (x ||| bitMask b) := by
  intro j _
  rw [BitVec.getLsbD_or, getLsbD_bitMask]
  split <;> simp [*]

section
variable {f : Form} {s : State} {k : Nat} {v : Bool} {w : Byte}

/-- A form that writes one bit of register `r` and nothing else. -/
theorem formWork_sets_bit_of_register {r : Reg8} (hf : f ≠ .cbPrefix) (hrun : (formWork f s).run = s.setR8 r w)
    (hw : BitSetTo k v (s.r8 r) w) :
    Encoded (encodeForm f) (instrOf f)
      ∧ ∃ t, Retires (instrOf f) s t [] ∧ BitSetTo k v (s.r8 r) (t.r8 r) ∧ KeptBut (formChanges f s) s t := by
  refine ⟨encoded_encodeForm hf, _, retires_formWork ?cycles, ?bit, (formWork_evolves f s).keptBut⟩
  all_goals rw [hrun]
  case cycles => exact s.setR8_cycles r w
  case bit => rwa [s.setR8_r8_same]

/-- A form that reads the byte at `HL` and writes it back with one bit set: the byte reads back (log 4). -/
theorem formWork_sets_bit_atHL (hf : f ≠ .cbPrefix)
    (hrun : (formWork f s).run = (s.afterRead s.hl).afterWrite s.hl w) (hw : BitSetTo k v (Memory.read s.mem s.hl) w) :
    Encoded (encodeForm f) (instrOf f)
      ∧ ∃ t w, Retires (instrOf f) s t [.read s.hl (Memory.read s.mem s.hl), .write s.hl w]
        ∧ Memory.read t.mem s.hl = w ∧ BitSetTo k v (Memory.read s.mem s.hl) w ∧ KeptBut (formChanges f s) s t := by
  refine ⟨encoded_encodeForm hf, _, w, retires_formWork ?cycles, ?memory, hw, (formWork_evolves f s).keptBut⟩
  all_goals rw [hrun]
  case cycles => rfl
  case memory => exact Memory.read_write_same s.mem s.hl w

end

end Sys2Proof.Machine

namespace Sys2Proof.Proofs

open Sys2Proof.Machine Sys2Proof.Safety

/-- Settles O38: each is one write of what `accRotOut` gives. -/
theorem rotateAccumulator : Obligations.RotateAccumulator := by
  intro s done
  exact ⟨accRotate_writes_A (f := .rlca) nofun rfl, accRotate_writes_A (f := .rrca) nofun rfl,
    accRotate_writes_A (f := .rla) nofun rfl, accRotate_writes_A (f := .rra) nofun rfl⟩

/-- Settles O39: one write of the register and of the flags, of what `rotOut` gives. -/
theorem rotateRegister : Obligations.RotateRegister := by
  intro op r s rotated
  exact formWork_writes_register (f := .cb (.rot op (.reg r))) (u := s) (o := ⟨_, _⟩) nofun
    (rotOut_eq op (s.r8 r) s.flags.c ▸ rfl) rfl

/-- Settles O40: a read and a write at `HL` of what `rotOut` gives; memory is RAM (log 4). -/
theorem rotateMemory : Obligations.RotateMemory := by
  intro op s m rotated
  exact formWork_writes_atHL (f := .cb (.rot op .atHL)) (o := ⟨_, _⟩) nofun (rotOut_eq op m s.flags.c ▸ rfl)

/-- Settles O41: the flags alone are written, on `(HL)` after one read. -/
theorem testBit : Obligations.TestBit := by
  intro b r s
  exact ⟨formWork_writes_flags (f := .cb (.bit b (.reg r))) (u := s) nofun rfl rfl,
    formWork_writes_flags (f := .cb (.bit b .atHL)) (u := s.afterRead s.hl) nofun rfl rfl⟩

/-- Settles O42: the masks change one bit, and no flag is written; memory is RAM (log 4). -/
theorem resetOrSetBit : Obligations.ResetOrSetBit := by
  intro b r s m
  refine ⟨?resReg, ?setReg, ?resAtHL, ?setAtHL⟩
  case resReg =>
    exact formWork_sets_bit_of_register (f := .cb (.res b (.reg r))) nofun rfl (bitSetTo_false_and_not_bitMask b _)
  case setReg =>
    exact formWork_sets_bit_of_register (f := .cb (.set b (.reg r))) nofun rfl (bitSetTo_true_or_bitMask b _)
  case resAtHL =>
    exact formWork_sets_bit_atHL (f := .cb (.res b .atHL)) nofun rfl (bitSetTo_false_and_not_bitMask b m)
  case setAtHL =>
    exact formWork_sets_bit_atHL (f := .cb (.set b .atHL)) nofun rfl (bitSetTo_true_or_bitMask b m)

end Sys2Proof.Proofs
end

