-- ==== Sys2Proof/Proofs/ControlFlow.lean ====
section
/-! PROOFS. Control flow (`46_control_flow.md`): the jumps (O44), the relative jumps (O45), the calls (O46), the restarts
(O49), the returns (O47) and the return from an interrupt (O48). A jump and a call are each said once, for any form whose
work runs to one; a conditional call or return, taken, is the unconditional one. -/

namespace Sys2Proof.Machine

open Sys2Proof.Safety

/-- A form retires in the state that its work is known to run to. -/
theorem retires_of_run {f : Form} {s t : State} {ms : List MCycle} (hrun : (formWork f s).run = t)
    (hc : t.cycles = ms.reverse ++ s.cycles) : Retires (instrOf f) s t ms :=
  ⟨(exec_instrOf f s).trans (congrArg _ hrun), hc⟩

/-! ## Jumps (R251 to R255) -/

/-- Taken, a jump sets `PC` after an internal M-cycle; not taken, nothing is done. -/
theorem retires_jump {f : Form} {s : State} {w : Word} {b : Bool}
    (hrun : (formWork f s).run = bif b then s.afterInternal.setPC w else s) :
    ∃ t, Retires (instrOf f) s t (if b then [.internal] else []) ∧ t.pc = (if b then w else s.pc)
      ∧ KeptBut { pc := true } s t := by
  cases b with
  | true => exact ⟨_, retires_of_run hrun rfl, rfl, (Evolves.refl.afterInternal.setPC rfl w).keptBut⟩
  | false => exact ⟨_, retires_of_run hrun rfl, rfl, Evolves.refl.keptBut⟩

theorem jpCond_run (cc : Cond) (nn : Word) (s : State) :
    (jpCond cc nn s).run = bif s.flags.cond cc then s.afterInternal.setPC nn else s :=
  Bool.apply_cond Work.run

/-- The target of a relative jump is an integer sum modulo 65,536 (decision D3). -/
theorem add_sext16_eq_ofInt (w : Word) (e : Byte) : w + sext16 e = BitVec.ofInt 16 (w.toNat + e.toInt) := by
  rw [sext16_eq_signExtend, BitVec.signExtend, BitVec.ofInt_add, BitVec.ofInt_natCast, BitVec.ofNat_toNat,
    BitVec.setWidth_eq]

theorem jr_run (e : Byte) (s : State) :
    (jr e s).run = s.afterInternal.setPC (BitVec.ofInt 16 (s.pc.toNat + e.toInt)) := by
  rw [← add_sext16_eq_ofInt]
  rfl

theorem jrCond_run (cc : Cond) (e : Byte) (s : State) :
    (jrCond cc e s).run =
      bif s.flags.cond cc then s.afterInternal.setPC (BitVec.ofInt 16 (s.pc.toNat + e.toInt)) else s := by
  rw [← jr_run]
  exact Bool.apply_cond Work.run

/-! ## Calls (R256, R257, R261) -/

/-- The state after a call of `w`: after an internal M-cycle `PC` is pushed, and `w` is the new `PC`. -/
def State.called (s : State) (w : Word) : State := (s.afterInternal.pushed s.pc).setPC w

/-- A call changes `PC`, `SP` and the two bytes below it; both bytes read back as pushed (log 4). -/
theorem retires_call {f : Form} {s : State} {w : Word} (hrun : (formWork f s).run = s.called w) :
    ∃ t, Retires (instrOf f) s t [.internal, .write (s.sp - 1) (hi s.pc), .write (s.sp - 2) (lo s.pc)]
      ∧ t.pc = w ∧ t.sp = s.sp - 2
      ∧ Memory.read t.mem (s.sp - 1) = hi s.pc ∧ Memory.read t.mem (s.sp - 2) = lo s.pc
      ∧ KeptBut { pc := true, sp := true, stores := [s.sp - 1, s.sp - 2] } s t := by
  have h : Evolves { s.pushChanges with pc := true } s s := .refl
  have hk := (h.afterInternal.pushed rfl (List.Subset.refl _) s.pc).setPC rfl w
  exact ⟨_, retires_of_run hrun (s.afterInternal.pushed_cycles s.pc), rfl, s.afterInternal.pushed_sp s.pc,
    s.afterInternal.pushed_read_high s.pc, s.afterInternal.pushed_read_low s.pc, hk.keptBut⟩

theorem callCond_taken {cc : Cond} {s : State} (h : s.flags.cond cc = true) (nn : Word) :
    callCond cc nn s = call nn s := by
  rw [callCond, h, cond_true]

theorem callCond_not_taken {cc : Cond} {s : State} (h : s.flags.cond cc = false) (nn : Word) :
    callCond cc nn s = .done s := by
  rw [callCond, h, cond_false]

/-- The restart targets are the multiples of 8 (R261). -/
theorem rstAddr_toNat (k : RstTarget) : (rstAddr k).toNat = 8 * (rstIndex k).toNat := by cases k <;> rfl

/-! ## Returns (R258 to R260) -/

/-- Taken, a conditional return is a return after the M-cycle that evaluates the condition. -/
theorem retCond_run_taken {cc : Cond} {s : State} (h : s.flags.cond cc = true) :
    (retCond cc s).run = (ret s.afterInternal).run := by
  rw [retCond, State.idling_run, State.afterInternal_flags, h, cond_true]

/-- Not taken, that M-cycle is all. -/
theorem retCond_run_not_taken {cc : Cond} {s : State} (h : s.flags.cond cc = false) :
    (retCond cc s).run = s.afterInternal := by
  rw [retCond, State.idling_run, State.afterInternal_flags, h, cond_false]
  rfl

end Sys2Proof.Machine

namespace Sys2Proof.Proofs

open Sys2Proof.Machine Sys2Proof.Safety

/-- Settles O44: each form is the write of `PC`, on the condition of the form. -/
theorem jumpSetsPC : Obligations.JumpSetsPC := by
  intro nn cc s
  refine ⟨?jp, ?jpCond, ?jpHL, ?condition⟩
  case jp => exact ⟨encoded_encodeForm (f := .jp nn) nofun, retires_jump (f := .jp nn) (b := true) rfl⟩
  case jpCond =>
    exact ⟨encoded_encodeForm (f := .jpCond cc nn) nofun, retires_jump (f := .jpCond cc nn) (jpCond_run cc nn s)⟩
  case jpHL =>
    exact ⟨encoded_encodeForm (f := .jpHL) nofun, _, retires_formWork (f := .jpHL) rfl, s.hl_eq,
      (formWork_evolves .jpHL s).keptBut⟩
  case condition => cases cc <;> rfl

/-- Settles O45: the jumps to the sum that `add_sext16_eq_ofInt` gives. -/
theorem relativeJumpAddsDisplacement : Obligations.RelativeJumpAddsDisplacement := by
  intro e cc s target
  exact ⟨⟨encoded_encodeForm (f := .jr e) nofun, retires_jump (f := .jr e) (b := true) (jr_run e s)⟩,
    encoded_encodeForm (f := .jrCond cc e) nofun, retires_jump (f := .jrCond cc e) (jrCond_run cc e s)⟩

/-- Settles O46: taken, `CALL cc,nn` is `CALL nn`; not taken, it does nothing. Memory is RAM (log 4). -/
theorem callPushesTheReturnAddress : Obligations.CallPushesTheReturnAddress := by
  intro nn cc s pushes called
  refine ⟨?call, encoded_encodeForm (f := .callCond cc nn) nofun, fun h => ?taken, fun h => ?notTaken⟩
  case call => exact ⟨encoded_encodeForm (f := .call nn) nofun, retires_call (f := .call nn) rfl⟩
  case taken => exact retires_call (f := .callCond cc nn) (congrArg Work.run (callCond_taken h nn))
  case notTaken =>
    exact ⟨s, retires_of_run (f := .callCond cc nn) (congrArg Work.run (callCond_not_taken h nn)) rfl,
      Evolves.refl.keptBut⟩

/-- Settles O47: taken, `RET cc` is `RET` after one more internal M-cycle; not taken, it is that M-cycle alone. -/
theorem returnPopsPC : Obligations.ReturnPopsPC := by
  intro cc s l h returned
  refine ⟨?ret, encoded_encodeForm (f := .retCond cc) nofun, fun hcc => ?taken, fun hcc => ?notTaken⟩
  case ret =>
    exact ⟨encoded_encodeForm (f := .ret) nofun, _, retires_formWork (f := .ret) rfl, rfl, s.popped_sp,
      (formWork_evolves .ret s).keptBut⟩
  case taken =>
    have hk : KeptBut { pc := true, sp := true } s s.afterInternal := Evolves.refl.afterInternal.keptBut
    exact ⟨_, retires_of_run (f := .retCond cc) (retCond_run_taken hcc) rfl, rfl, s.afterInternal.popped_sp,
      hk.trans (formWork_evolves .ret s.afterInternal).keptBut⟩
  case notTaken =>
    exact ⟨_, retires_of_run (f := .retCond cc) (retCond_run_not_taken hcc) rfl, Evolves.refl.afterInternal.keptBut⟩

/-- Settles O48: the pop, then the writes of `PC` and of `IME` in the last M-cycle. -/
theorem returnFromInterruptSetsIme : Obligations.ReturnFromInterruptSetsIme := by
  intro s l h
  exact ⟨encoded_encodeForm (f := .reti) nofun, _, retires_formWork (f := .reti) rfl, rfl, s.popped_sp, rfl,
    (formWork_evolves .reti s).keptBut⟩

/-- Settles O49: a call of the target, which is a multiple of 8; memory is RAM (log 4). -/
theorem restartCallsItsTarget : Obligations.RestartCallsItsTarget := by
  intro k s
  obtain ⟨t, hr, hpc, hrest⟩ := retires_call (f := .rst k) (s := s) (w := rstAddr k) rfl
  exact ⟨encoded_encodeForm (f := .rst k) nofun, t, hr, hpc ▸ rstAddr_toNat k, hrest⟩

end Sys2Proof.Proofs
end

