-- ==== Sys2Proof/Proofs/ControlAndExceptions.lean ====
section
/-! PROOFS. Machine control (`47_misc_control.md`): `NOP` and `DI` (O50), `EI`, `HALT` and `STOP` (O51), the invalid opcodes
(O52) and the prefix (O43); exceptions (`60_exceptions.md`): the dispatch (O54), its return (O55), the wake-up and another
agent (O56); reset and the M-cycle counts (`70_reset_and_hazards.md`): O2, O13. The dispatch is told as a push, so that
what a push leaves in memory and on the stack need not be said again; the M-cycles of a step are the bytes fetched and the
M-cycles of the work, counted form by form. -/

namespace Sys2Proof.Machine

open Sys2Proof.Safety

/-! ## The dispatch and the wake-up (R305, R307, R321, R325) -/

/-- The state in which a dispatch pushes `PC`: the latches cleared, two internal M-cycles spent (R307). -/
def State.dispatching (s : State) : State := ((s.setIME false).setHalted false).afterInternal.afterInternal

/-- A dispatch is a push of `PC`, then the vector in `PC` and an internal M-cycle (R307). -/
theorem State.dispatch_run_eq_pushed (s : State) (v : Word) :
    (s.dispatch v).run = ((s.dispatching.pushed s.pc).setPC v).afterInternal := rfl

theorem State.dispatch_run_cycles (s : State) (v : Word) :
    (s.dispatch v).run.cycles =
      [.internal, .write (s.sp - 2) (lo s.pc), .write (s.sp - 1) (hi s.pc), .internal, .internal] ++ s.cycles := by
  rw [State.dispatch_run_eq_pushed, State.afterInternal_cycles, State.setPC_cycles, State.pushed_cycles]
  rfl

theorem State.dispatch_run_sp (s : State) (v : Word) : (s.dispatch v).run.sp = s.sp - 2 := s.dispatching.pushed_sp s.pc

/-- Both bytes of `PC` read back as pushed (log 4). -/
theorem State.dispatch_run_read (s : State) (v : Word) :
    Memory.read (s.dispatch v).run.mem (s.sp - 1) = hi s.pc
      ∧ Memory.read (s.dispatch v).run.mem (s.sp - 2) = lo s.pc :=
  ⟨s.dispatching.pushed_read_high s.pc, s.dispatching.pushed_read_low s.pc⟩

/-- A dispatch leaves the old `PC` on top of the stack (R307). -/
theorem State.dispatch_run_stackTop (s : State) (v : Word) : (s.dispatch v).run.stackTop = s.pc :=
  s.dispatching.pushed_stackTop s.pc

/-- `RETI` takes `PC` from the top of the stack (R313). -/
theorem reti_run_pc (s : State) : (formWork .reti s).run.pc = s.stackTop := rfl

theorem reti_run_sp (s : State) : (formWork .reti s).run.sp = s.sp + 2 := s.popped_sp

/-- A dispatch with `IME = 1` and no fault is taken (R305). -/
theorem transition_int_taken {s : State} (hi : s.ime = true) (hf : s.faulted = false) (v : Word) :
    transition (.int v) s = .next (s.dispatch v).run := by
  simp [State.dispatchEnabled, hi, hf]

/-- Any other dispatch is refused (log 15). -/
theorem transition_int_refused {s : State} (h : s.ime = false ∨ s.faulted = true) (v : Word) :
    transition (.int v) s = .refused .dispatchNotEnabled := by
  rcases h with hi | hf
  · simp [State.dispatchEnabled, hi]
  · simp [State.dispatchEnabled, hf]

/-- A wake-up of a halted CORE without a fault is taken (R325). -/
theorem transition_wake_taken {s : State} (hh : s.halted = true) (hf : s.faulted = false) :
    transition .wake s = .next (s.setHalted false) := by
  simp [State.wakeEnabled, State.wake, hh, hf]

/-- Any other wake-up is refused (log 15). -/
theorem transition_wake_refused {s : State} (h : s.halted = false ∨ s.faulted = true) :
    transition .wake s = .refused .wakeNotEnabled := by
  rcases h with hh | hf
  · simp [State.wakeEnabled, hh]
  · simp [State.wakeEnabled, hf]

/-! ## The M-cycles of an instruction (R350, R351) -/

/-- How many bytes of a form are fetched: all, but one of the two of `STOP` (R351, R272). -/
def fetchedBytes : Form → Nat
  | .stop => 1
  | f => (encodeForm f).length

theorem fetchedBytes_eq_length {f : Form} (h : f ≠ .stop) : fetchedBytes f = (encodeForm f).length := by
  cases f with
  | stop => exact absurd rfl h
  | _ => rfl

/-- The bytes fetched at `PC` are those of the form there. -/
theorem State.fetchCount_opcodeByte (s : State) : fetchCount s.opcodeByte = fetchedBytes (formOf s.instrAt) := by
  by_cases hs : formOf s.instrAt = .stop
  · rw [hs, s.formOf_instrAt_eq_stop_iff.1 hs]
    rfl
  · have hb : s.opcodeByte ≠ Config.stopByte := mt s.formOf_instrAt_eq_stop_iff.2 hs
    have hp := encodeForm_decodeForm_isPrefix (b1 := Memory.read s.mem (s.pc + 1))
      (b2 := Memory.read s.mem (s.pc + 2)) hb
    rw [fetchedBytes_eq_length hs, fetchCount_eq_lengthOf hb, State.instrAt, decode3, formOf_instrOf]
    exact lengthOf_eq_of_isPrefix decodeForm_ne_cbPrefix hp

/-- Fetched in two bytes, a CB-space instruction reads and writes memory only with the operand at `HL`. -/
theorem runCb_cycleCount (c : CbForm) (s : State) : 2 + (runCb c s).cycleCount = cbCycles c := by
  cases c with
  | rot _ x | bit _ x | res _ x | set _ x => cases x <;> rfl

/-- Fetched in one or two bytes, an accumulator operation has at most the read of its operand to do. -/
theorem alu_cycleCount (op : AluOp) (x : AluSrc) (s : State) (fl : Flags) :
    (encodeAlu op x).length + (alu op x s).cycleCount = mcycles (.alu op x) fl := by
  cases op <;> cases x <;> rfl

/-- The bytes fetched and the M-cycles of the work together are the table's count. -/
theorem formWork_cycleCount {f : Form} (hf : f ≠ .cbPrefix) (s : State) :
    fetchedBytes f + (formWork f s).cycleCount = mcycles f s.flags := by
  cases f with
  | cbPrefix => exact absurd rfl hf
  | loadA m | storeA m => cases m <;> rfl
  | alu op x => exact alu_cycleCount op x s s.flags
  | cb c => exact runCb_cycleCount c s
  | jpCond cc nn =>
    rw [formWork, jpCond, mcycles]
    cases s.flags.cond cc <;> rfl
  | jrCond cc e =>
    rw [formWork, jrCond, mcycles]
    cases s.flags.cond cc <;> rfl
  | callCond cc nn =>
    rw [formWork, callCond, mcycles]
    cases s.flags.cond cc <;> rfl
  | retCond cc =>
    rw [formWork, retCond, mcycles, State.idling_cycleCount, State.afterInternal_flags]
    cases s.flags.cond cc <;> rfl
  | _ => rfl

/-- The work of the next instruction, its fetches included, has the M-cycles of the table (R350). -/
theorem State.instrWork_cycleCount (s : State) : s.instrWork.cycleCount = mcycles (formOf s.instrAt) s.flags := by
  rw [← s.instrWork_leadsTo.cycleCount, Nat.add_comm, ← State.fetched_flags s (fetchCount s.opcodeByte),
    ← formWork_cycleCount s.formOf_instrAt_ne_cbPrefix, s.fetchCount_opcodeByte]

/-- CORE's turn, neither faulted nor halted, is the run of that work (R116, R121). -/
theorem advance_eq_instrWork {s : State} (hf : s.faulted = false) (hh : s.halted = false) :
    advance s = .next s.instrWork.run := by
  rw [advance_running hf hh, exec_eq, s.instrWork_leadsTo.run]

end Sys2Proof.Machine

namespace Sys2Proof.Proofs

open Sys2Proof.Machine Sys2Proof.Safety

/-- Settles O52: the work of the row is the fault with the row's byte. -/
theorem invalidOpcodeTakesTheFault : Obligations.InvalidOpcodeTakesTheFault := by
  intro k s
  exact ⟨encoded_encodeForm (f := .invalid k) nofun, _, retires_formWork (f := .invalid k) rfl, rfl, rfl,
    (formWork_evolves (.invalid k) s).keptBut⟩

/-- Settles O43: the work of the row is one fetch, then the work of the CB-space form of the byte fetched. -/
theorem prefixRunsTheCbInstruction : Obligations.PrefixRunsTheCbInstruction := fun s =>
  ⟨_, exec_eq .cbPrefix s, exec_instrOf (.cb (cbFormOf (Memory.read s.mem s.pc))) (s.fetched 1)⟩

/-- Settles O50: `NOP` has no work to do, and `DI` one write of `IME`. -/
theorem noOperationAndDisable : Obligations.NoOperationAndDisable := by
  intro s
  refine ⟨?nop, ?di⟩
  case nop =>
    exact ⟨encoded_encodeForm (f := .nop) nofun, _, retires_formWork (f := .nop) rfl,
      (formWork_evolves .nop s).keptBut⟩
  case di =>
    exact ⟨encoded_encodeForm (f := .di) nofun, _, retires_formWork (f := .di) rfl, rfl,
      (formWork_evolves .di s).keptBut⟩

/-- Settles O51: each is one write of its latch; of `STOP` the first byte alone decides the row. -/
theorem enableHaltAndStop : Obligations.EnableHaltAndStop := by
  intro s
  refine ⟨?ei, ?halt, ?stop⟩
  case ei =>
    exact ⟨encoded_encodeForm (f := .ei) nofun, _, retires_formWork (f := .ei) rfl, rfl,
      (formWork_evolves .ei s).keptBut⟩
  case halt =>
    exact ⟨encoded_encodeForm (f := .halt) nofun, _, retires_formWork (f := .halt) rfl, rfl,
      (formWork_evolves .halt s).keptBut⟩
  case stop =>
    exact ⟨fun b rest => rfl, _, retires_formWork (f := .stop) rfl, rfl, rfl, (formWork_evolves .stop s).keptBut⟩

/-- Settles O54: a dispatch that is enabled is a push of `PC`, whose bytes read back (log 4). -/
theorem dispatchEntersTheHandler : Obligations.DispatchEntersTheHandler := by
  intro s v rest he
  refine ⟨fun hi hf => ?taken, fun h => ?refused⟩
  case taken =>
    have hstep := (step_scheduled he).trans (transition_int_taken (s := { s with env := rest }) hi hf v)
    obtain ⟨hhigh, hlow⟩ := State.dispatch_run_read { s with env := rest } v
    exact ⟨_, hstep, rfl, rfl, rfl, State.dispatch_run_sp _ v, hhigh, hlow, State.dispatch_run_cycles _ v,
      (State.dispatch_evolves { s with env := rest } v).keptBut⟩
  case refused => exact (step_scheduled he).trans (transition_int_refused (s := { s with env := rest }) h v)

/-- Settles O55: `RETI` pops what the dispatch pushed (log 4), and neither writes a register or the flags. -/
theorem dispatchThenReturnRestores : Obligations.DispatchThenReturnRestores := by
  intro s v hi hf
  have hd := (s.dispatch_evolves v).keptBut
  have hr := (formWork_evolves .reti (s.dispatch v).run).keptBut
  refine ⟨_, _, transition_int_taken hi hf v, exec_instrOf .reti _, ?pc, ?sp, rfl, rfl,
    fun r => (hr.regs r List.not_mem_nil).trans (hd.regs r List.not_mem_nil), (hr.flags rfl).trans (hd.flags rfl)⟩
  case pc => rw [reti_run_pc, State.dispatch_run_stackTop]
  case sp => rw [reti_run_sp, State.dispatch_run_sp, BitVec.sub_add_cancel]

/-- Settles O56: the wake-up is the write of `halted`, another agent's write that of its byte, which then
reads back (log 4). -/
theorem wakeAndAgentChangeWhatTheyName : Obligations.WakeAndAgentChangeWhatTheyName := by
  intro s a v rest
  refine ⟨fun he hh hf => ?wake, fun he h => ?refused, fun he => ?agent⟩
  case wake =>
    exact ⟨_, (step_scheduled he).trans (transition_wake_taken (s := { s with env := rest }) hh hf), rfl, rfl, rfl,
      (Evolves.refl.setHalted rfl false).keptBut⟩
  case refused => exact (step_scheduled he).trans (transition_wake_refused (s := { s with env := rest }) h)
  case agent =>
    exact ⟨_, step_scheduled he, Memory.read_write_same s.mem a v, rfl, State.agentWrite_keptBut _ a v⟩

/-- Settles O13: the trace grows, and by as many M-cycles as the work of the instruction at `PC` spends, which are those of
the table. -/
theorem stepTakesTheTableMCycles : Obligations.StepTakesTheTableMCycles := by
  rintro s ⟨hf, hh, he⟩
  obtain ⟨t, ht, ms, hc, -⟩ := advance_replays s
  obtain rfl : s.instrWork.run = t := by simpa [advance_eq_instrWork hf hh] using ht
  refine ⟨_, ms.reverse, (step_idle_schedule he).trans ht, hc, ?_⟩
  have hlen := instrWork_traced s
  rw [hc, List.length_append, Nat.add_comm] at hlen
  exact (Nat.add_left_cancel hlen).trans s.instrWork_cycleCount

/-- Settles O2: the schedule's next entry is the reset, whose numbers are the defaults of the parameters (decision D2). -/
theorem resetOverridesEveryState : Obligations.ResetOverridesEveryState := fun _ _ he =>
  ⟨_, step_scheduled he, rfl, rfl, rfl, rfl, rfl, rfl, rfl, rfl, rfl, rfl, rfl, rfl⟩

end Sys2Proof.Proofs
end
